-- ==== Sys2Proof/Word.lean ====
section
/-! DEFINITION. The word types of the BC7 block decoder: bytes, the 128-bit block, the four-channel pixel. -/

namespace Sys2Proof

/-- A byte of the block or of `destRGBA`, and the width of every dequantized channel (R9, R44). -/
abbrev Byte := BitVec 8

/-- The 128-bit block; bit k is stream bit k (R11, R81). -/
abbrev Block := BitVec 128

/-- Four 8-bit channels: an endpoint (R44) or an output pixel (R47). Channel numbers: R14. -/
structure Rgba where
  r : Byte
  g : Byte
  b : Byte
  a : Byte
deriving DecidableEq, Repr, Inhabited

/-- Three colour channels of `w` bits each: the colour fields of one endpoint (R42, R103). -/
structure Colour (w : Nat) where
  r : BitVec w
  g : BitVec w
  b : BitVec w
deriving DecidableEq, Repr, Inhabited

/-! Register arrays are written out entry by entry, so that reading one never runs a loop. -/

/-- The 3 values `f 0` .. `f 2`. -/
def tab3 {α : Type} (f : Fin 3 → α) : Vector α 3 :=
  #v[f 0, f 1, f 2]

/-- The 6 values `f 0` .. `f 5`. -/
def tab6 {α : Type} (f : Fin 6 → α) : Vector α 6 :=
  #v[f 0, f 1, f 2, f 3, f 4, f 5]

/-- The 16 values `f 0` .. `f 15`. -/
def tab16 {α : Type} (f : Fin 16 → α) : Vector α 16 :=
  #v[f 0, f 1, f 2, f 3, f 4, f 5, f 6, f 7, f 8, f 9, f 10, f 11, f 12, f 13, f 14, f 15]

end Sys2Proof
end

