-- ==== Sys2Proof/Config.lean ====
section
/-! DEFINITION. What the source fixes for every decoder (R9), the shape of a mode descriptor (R16, R51), and the
free values: constants with no body for what the spec leaves undefined. -/

namespace Sys2Proof

/-- BLOCK_BYTES (R9). -/
def Config.blockBytes : Nat := 16
/-- BLOCK_BITS (R9, R100). -/
def Config.blockBits : Nat := 128
/-- MAX_READ_BITS, the largest `count` of `readBits` (R9, R140). -/
def Config.maxReadBits : Nat := 32

/-- ns, the subset count of a mode: 1 to MAX_SUBSETS = 3 (R9, R16). -/
inductive Subsets where
  | one | two | three
deriving DecidableEq, Repr, Inhabited

/-- The number a subset count stands for. -/
def Subsets.count : Subsets → Nat
  | .one => 1 | .two => 2 | .three => 3

/-- The width of an index set. No width other than 2, 3 and 4 occurs (R205). -/
inductive IndexWidth where
  | two | three | four
deriving DecidableEq, Repr, Inhabited

/-- The number of bits of an index width. -/
def IndexWidth.bits : IndexWidth → Nat
  | .two => 2 | .three => 3 | .four => 4

/-- The ModeDescriptor (R38), its fields abbreviated as in R16. `ib2 = none` is the spec's ib2 = 0. -/
structure ModeDesc where
  /-- subsetCount -/
  ns  : Subsets
  /-- partitionBits -/
  pb  : Nat
  /-- rotationBits -/
  rb  : Nat
  /-- indexSelectorBits -/
  isb : Nat
  /-- colorBitsPerChannel -/
  cb  : Nat
  /-- alphaBitsPerChannel; 0 = the mode carries no alpha -/
  ab  : Nat
  /-- hasPerEndpointPBit -/
  epb : Bool
  /-- hasSharedPBit -/
  spb : Bool
  /-- primaryIndexBits -/
  ib  : IndexWidth
  /-- secondaryIndexBits -/
  ib2 : Option IndexWidth
deriving DecidableEq, Repr, Inhabited

/-- NE = 2·ns, the endpoint count (R42, R105). -/
def ModeDesc.ne (d : ModeDesc) : Nat := 2 * d.ns.count

/-- FREE VALUE (log 5): `desc` after a Reserved block, "undefined when mode = Reserved" (R38); the argument is the
number of the draw. -/
opaque Config.freeDesc : Nat → ModeDesc

/-- FREE VALUE (log 12): whether a footprint byte holds its decoded value after a reset during a decode (R301); the
arguments are the number of the draw and the byte's offset. -/
opaque Config.freeResetMix : Nat → Nat → Bool

/-- FREE VALUE (log 11): whether the caller that looks at a footprint byte before completion sees its decoded value
(R306); the arguments are the number of the look and the byte's offset. -/
opaque Config.freeSight : Nat → Nat → Bool

/-- FREE VALUE (log 11): the decoded value of a byte that another instance is decoding, which one unit's state cannot
tell (R89); the arguments are the number of the look and the byte's offset. -/
opaque Config.freeByte : Nat → Nat → Byte

end Sys2Proof
end

