-- ==== Sys2Proof/Syntax.lean ====
section
/-! DEFINITION. The instruction set: one block is one instruction, its opcode the mode (R2). One constructor per row of
spec/opcode_table.json. The operands are the fields of the mode's layout (R119), in stream order (R103), each at the
width its layout table gives it (R110 to R117). An index operand is the index VALUE at its set's full width (R123). -/

namespace Sys2Proof

/-- The nine blocks. `colour`, `alpha` and `pbits` are indexed by endpoint, `sp` by subset, `idx1` and `idx2` by pixel. -/
inductive Instr where
  /-- MODE0 (R253, layout R110): three subsets. -/
  | mode0 (partition : BitVec 4) (colour : Vector (Colour 4) 6) (pbits : Vector (BitVec 1) 6)
      (idx1 : Vector (BitVec 3) 16)
  /-- MODE1 (R254, layout R111): two subsets, shared p-bits. -/
  | mode1 (partition : BitVec 6) (colour : Vector (Colour 6) 4) (sp : Vector (BitVec 1) 2)
      (idx1 : Vector (BitVec 3) 16)
  /-- MODE2 (R255, layout R112): three subsets. -/
  | mode2 (partition : BitVec 6) (colour : Vector (Colour 5) 6) (idx1 : Vector (BitVec 2) 16)
  /-- MODE3 (R256, layout R113): two subsets. -/
  | mode3 (partition : BitVec 6) (colour : Vector (Colour 7) 4) (pbits : Vector (BitVec 1) 4)
      (idx1 : Vector (BitVec 2) 16)
  /-- MODE4 (R257, layout R114): rotation, index selector, two index sets. -/
  | mode4 (rotation : BitVec 2) (idxSel : BitVec 1) (colour : Vector (Colour 5) 2) (alpha : Vector (BitVec 6) 2)
      (idx1 : Vector (BitVec 2) 16) (idx2 : Vector (BitVec 3) 16)
  /-- MODE5 (R258, layout R115): rotation, two index sets. -/
  | mode5 (rotation : BitVec 2) (colour : Vector (Colour 7) 2) (alpha : Vector (BitVec 8) 2)
      (idx1 : Vector (BitVec 2) 16) (idx2 : Vector (BitVec 2) 16)
  /-- MODE6 (R259, layout R116): one subset, 4-bit indices. -/
  | mode6 (colour : Vector (Colour 7) 2) (alpha : Vector (BitVec 7) 2) (pbits : Vector (BitVec 1) 2)
      (idx1 : Vector (BitVec 4) 16)
  /-- MODE7 (R260, layout R117): two subsets with alpha. -/
  | mode7 (partition : BitVec 6) (colour : Vector (Colour 5) 4) (alpha : Vector (BitVec 5) 4)
      (pbits : Vector (BitVec 1) 4) (idx1 : Vector (BitVec 2) 16)
  /-- RESERVED (R261): `unread` is bits 127..8, which the decoder does not read (R102; log 20). -/
  | reserved (unread : BitVec 120)
deriving DecidableEq, Repr

/-- The mode of a block: 0..7, or Reserved (R37). -/
inductive Mode where
  | valid (m : Fin 8)
  | reserved
deriving DecidableEq, Repr, Inhabited

/-- The mode an instruction is the block of. -/
def Instr.mode : Instr → Mode
  | .mode0 .. => .valid 0
  | .mode1 .. => .valid 1
  | .mode2 .. => .valid 2
  | .mode3 .. => .valid 3
  | .mode4 .. => .valid 4
  | .mode5 .. => .valid 5
  | .mode6 .. => .valid 6
  | .mode7 .. => .valid 7
  | .reserved _ => .reserved

end Sys2Proof
end

