-- ==== Sys2Proof/Machine/State.lean ====
section
/-! DEFINITION. The state of the unit as plain data (R30 to R48), the reasons a step can stop, and the state after
reset (R60, R300). The read-only tables never change and are no part of it (Machine/Rom.lean, log 2). -/

namespace Sys2Proof.Machine

/-- The sequencer's states (R35, R250). -/
inductive Seq where
  | idle
  | detectMode
  | readPartitionRotationSelector
  | readEndpointChannels
  | readPBits
  | dequantize
  | readIndices
  | interpolatePixels
  | applyRotation
  | writeOutput
deriving DecidableEq, Repr, Inhabited

/-- A request as the caller presents it (R31, R123): the block's bytes, byte 0 first, its block coordinates bx and by,
and the image size W and H. The coordinates are naturals, whatever COORD_BITS is (log 8). A front end may present a
list of other than 16 bytes; duty P1 forbids it (R283, R284). -/
structure Request where
  blockBytes  : List Byte
  blockX      : Nat
  blockY      : Nat
  imageWidth  : Nat
  imageHeight : Nat
deriving DecidableEq, Repr, Inhabited

/-- Where a decode in another instance writes: the footprint of a block in an image in the same buffer (R294, P3). -/
structure Region where
  blockX      : Nat
  blockY      : Nat
  imageWidth  : Nat
  imageHeight : Nat
deriving DecidableEq, Repr, Inhabited

/-- `destRGBA`: the bytes whose contents are known, as (offset, byte), offsets strictly rising. An unlisted byte is the
caller's prior byte, which the model does not know (log 6). -/
abbrev Memory := List Host.Cell

/-- Whether each offset is below the one after it. -/
def risingFrom : Nat → List Host.Cell → Bool
  | _, [] => true
  | low, (a, _) :: rest => decide (low ≤ a) && risingFrom (a + 1) rest

/-- The canonical form: offsets strictly rising. -/
def Memory.wf (m : Memory) : Bool := risingFrom 0 m

structure State where
  /-- The sequencer state (R35). -/
  seq : Seq
  /-- The request port: requests presented and not yet accepted, oldest first (R251, R308). -/
  requests : List Request
  /-- The latched block (R97). -/
  blk : Block
  /-- The latched bx (R31). -/
  blockX : Nat
  /-- The latched by (R31). -/
  blockY : Nat
  /-- The latched W (R31). -/
  imageWidth : Nat
  /-- The latched H (R31). -/
  imageHeight : Nat
  /-- The bit cursor, 0..128 (R36). -/
  bitPos : Nat
  /-- The mode (R37). -/
  mode : Mode
  /-- The descriptor of the mode (R38). -/
  desc : ModeDesc
  /-- The partition number (R39). -/
  partition : BitVec 6
  /-- The channel rotation (R40). -/
  rotation : BitVec 2
  /-- The index-selector bit (R41). -/
  idxSel : BitVec 1
  /-- Raw endpoint channels `epRaw[e][c]` (R42). -/
  epRaw : Vector Rgba 6
  /-- The p-bit each endpoint uses (R43). -/
  pbit : Vector (BitVec 1) 6
  /-- The shared p-bit of each subset (R43, R181). -/
  sp : Vector (BitVec 1) 3
  /-- Dequantized endpoints `ep[e][c]` (R44). -/
  ep : Vector Rgba 6
  /-- Primary indices (R45). -/
  idx1 : Vector (BitVec 4) 16
  /-- Secondary indices (R45). -/
  idx2 : Vector (BitVec 3) 16
  /-- The subset of each pixel (R46). -/
  subsetOf : Vector (Fin 3) 16
  /-- Whether each pixel is an anchor of the primary set (R46). -/
  anchor : Vector Bool 16
  /-- The output pixels `px[i][c]` (R47). -/
  px : Vector Rgba 16
  /-- `destRGBA` (R32, R80). -/
  dest : Memory
  /-- The real length of the caller's buffer in bytes (P2 of R283, R285). -/
  destLen : Nat
  /-- The completion signal (R33), up from the step that completes a decode to the next step (log 9). -/
  completion : Bool
  /-- Input: the regions other instances are decoding into (R294, P3 of R283; log 10). -/
  inFlight : List Region
  /-- Input: reset is requested and is taken at the next step (R300, R301; log 12). -/
  resetIn : Bool
  /-- The model's own: how many free values have been drawn (log 5). -/
  freeCount : Nat
deriving DecidableEq, Repr

/-- Why a step can stop with a fault. The unit itself raises none (R280). -/
inductive Fault where
  /-- Raised by a sequencer state that reads past bit 127 or more than 32 bits at once: the model's assertion of
  92 D16. SAFE: no state with the invariant reaches it, and the unit makes no such call (R140). -/
  | readOutOfRange
deriving DecidableEq, Repr

/-- Why a step is given no meaning: a duty of the caller is broken (R283, R284). -/
inductive Refusal where
  /-- Raised only by an arm of exec that has no meaning yet. SAFE. -/
  | notModelled (mnemonic : String)
  /-- P1, raised when a request is accepted: its block is not exactly 16 bytes (R283, R284). SAFE. -/
  | blockNotSixteenBytes
  /-- P2, raised when a decode writes its output: `destRGBA` is shorter than W·H·4 bytes (R285). SAFE. -/
  | bufferTooSmall
  /-- P3, raised when a decode writes its output: another instance is decoding into the same bytes (R286). SAFE. -/
  | footprintInUse
deriving DecidableEq, Repr

/-- The state after reset (R60, R300): the sequencer is Idle, nothing is presented, no byte of `destRGBA` is known. The
spec gives the working registers no value; the model names zero (log 3). DESIGN CHOICES too: no byte is known and the buffer
has length 0 (log 6), no request is presented (log 18), and no other instance is decoding (log 10; R294 allows any
number). -/
def State.reset : State where
  seq := .idle
  requests := []
  blk := 0
  blockX := 0
  blockY := 0
  imageWidth := 0
  imageHeight := 0
  bitPos := 0
  mode := .valid 0
  desc := ⟨.one, 0, 0, 0, 0, 0, false, false, .two, none⟩
  partition := 0
  rotation := 0
  idxSel := 0
  epRaw := tab6 fun _ => ⟨0, 0, 0, 0⟩
  pbit := tab6 fun _ => 0
  sp := tab3 fun _ => 0
  ep := tab6 fun _ => ⟨0, 0, 0, 0⟩
  idx1 := tab16 fun _ => 0
  idx2 := tab16 fun _ => 0
  subsetOf := tab16 fun _ => 0
  anchor := tab16 fun _ => false
  px := tab16 fun _ => ⟨0, 0, 0, 0⟩
  dest := []
  destLen := 0
  completion := false
  inFlight := []
  resetIn := false
  freeCount := 0

end Sys2Proof.Machine
end

