-- ==== Sys2Proof/Machine/Flags.lean ====
section
/-! DEFINITION. What the unit has in place of flags. It has no flags or condition codes and no instruction computes one
(R34); it has one completion signal (R33), and its outcome, valid or Reserved, is reported on no port (R281). -/

namespace Sys2Proof.Machine

/-- The signal down: every step but the one that completes a decode leaves it so (log 9). -/
def State.clearCompletion (s : State) : State := { s with completion := false }

/-- The end of a decode: back to Idle, with completion (R263, R33). -/
def State.complete (s : State) : State := { s with seq := .idle, completion := true }

/-- The two outcomes of a decode (R280). -/
inductive OutcomeKind where
  | validMode
  | reservedMode
deriving DecidableEq, Repr

/-- The ghost output a model may expose (R281): the outcome, read from `mode`. -/
def State.outcomeKind (s : State) : OutcomeKind :=
  match s.mode with
  | .valid _ => .validMode
  | .reserved => .reservedMode

end Sys2Proof.Machine
end

