-- ==== Sys2Proof/Machine/BitReader.lean ====
section
/-! DEFINITION. The bit reader (R140, R141, R81, R82): fields of the block's bit stream, least significant bit first. -/

namespace Sys2Proof

/-- The n-bit field at stream position `pos` (R11, R82): its bit k is `blk[pos + k]`. -/
def field (blk : Block) (pos n : Nat) : BitVec n := blk.extractLsb' pos n

/-- `readBits(blk, pos, n)` (R140) for n in 0..32. `none` where the model faults: a read past bit 127 (92 D16), or a
count over MAX_READ_BITS (log 17). -/
def readBits (blk : Block) (pos n : Nat) : Option Nat :=
  if n ≤ Config.maxReadBits ∧ pos + n ≤ Config.blockBits then some (field blk pos n).toNat else none

/-- A run of `take`s (R141): the fields of the widths listed, each at the cursor the one before it left. Answers the
values in order and the cursor after the last. -/
def takes (blk : Block) : Nat → List Nat → Option (List Nat × Nat)
  | pos, [] => some ([], pos)
  | pos, n :: ns =>
    match readBits blk pos n with
    | none => none
    | some v =>
      match takes blk (pos + n) ns with
      | none => none
      | some (vs, last) => some (v :: vs, last)

/-- The block of 16 bytes, byte 0 lowest (R31, R81): `Σ byte[j] · 2^(8j)`. -/
def blockOfBytes (bytes : List Byte) : Block :=
  BitVec.ofNat 128 (bytes.foldr (fun b acc => b.toNat + 256 * acc) 0)

/-- The 16 bytes of a block, byte 0 first (R81). -/
def bytesOfBlock (blk : Block) : List Byte :=
  (List.range Config.blockBytes).map fun j => field blk (8 * j) 8

end Sys2Proof
end

