-- ==== Sys2Proof/Machine/Rom.lean ====
section
/-! DEFINITION. The read-only tables (R49 to R57) and the one way each is read. They are compile-time constants, so
they are no part of State (log 2). Contents: R51 to R57, the spec's own general-knowledge content (93 G1 to G5). -/

namespace Sys2Proof.Rom

/-- ROM table MODE (R51). Columns: ns pb rb isb cb ab epb spb ib ib2. -/
def mode : Fin 8 → ModeDesc
  | 0 => ⟨.three, 4, 0, 0, 4, 0, true,  false, .three, none⟩
  | 1 => ⟨.two,   6, 0, 0, 6, 0, false, true,  .three, none⟩
  | 2 => ⟨.three, 6, 0, 0, 5, 0, false, false, .two,   none⟩
  | 3 => ⟨.two,   6, 0, 0, 7, 0, true,  false, .two,   none⟩
  | 4 => ⟨.one,   0, 2, 1, 5, 6, false, false, .two,   some .three⟩
  | 5 => ⟨.one,   0, 2, 0, 7, 8, false, false, .two,   some .two⟩
  | 6 => ⟨.one,   0, 0, 0, 7, 7, true,  false, .four,  none⟩
  | 7 => ⟨.two,   6, 0, 0, 5, 5, true,  false, .two,   none⟩

/-- ROM table P2, one row a partition, as the 16-bit masks of R52: bit i of row p is `P2[p][i]`. -/
def p2Mask : List Nat :=
  [0xCCCC, 0x8888, 0xEEEE, 0xECC8, 0xC880, 0xFEEC, 0xFEC8, 0xEC80,
   0xC800, 0xFFEC, 0xFE80, 0xE800, 0xFFE8, 0xFF00, 0xFFF0, 0xF000] ++
  [0xF710, 0x008E, 0x7100, 0x08CE, 0x008C, 0x7310, 0x3100, 0x8CCE,
   0x088C, 0x3110, 0x6666, 0x366C, 0x17E8, 0x0FF0, 0x718E, 0x399C] ++
  [0xAAAA, 0xF0F0, 0x5A5A, 0x33CC, 0x3C3C, 0x55AA, 0x9696, 0xA55A,
   0x73CE, 0x13C8, 0x324C, 0x3BDC, 0x6996, 0xC33C, 0x9966, 0x0660] ++
  [0x0272, 0x04E4, 0x4E40, 0x2720, 0xC936, 0x936C, 0x39C6, 0x639C,
   0x9336, 0x9CC6, 0x817E, 0xE718, 0xCCF0, 0x0FCC, 0x7744, 0xEE22]

/-- ROM table Anchor2 (R53). -/
def anchor2Row : List (Fin 16) :=
  [15, 15, 15, 15, 15, 15, 15, 15,
   15, 15, 15, 15, 15, 15, 15, 15] ++
  [15, 2, 8, 2, 2, 8, 8, 15,
   2, 8, 2, 2, 8, 8, 2, 2] ++
  [15, 15, 6, 8, 2, 8, 15, 15,
   2, 8, 2, 2, 2, 15, 15, 6] ++
  [6, 2, 6, 8, 15, 15, 2, 2,
   15, 15, 15, 15, 15, 2, 2, 15]

/-- ROM table P3, one row a partition, packed as R54 packs it: bits [2i+1:2i] of row p are `P3[p][i]`. -/
def p3Packed : List Nat :=
  [0xAA685050, 0x6A5A5040, 0x5A5A4200, 0x5450A0A8, 0xA5A50000, 0xA0A05050, 0x5555A0A0, 0x5A5A5050,
   0xAA550000, 0xAA555500, 0xAAAA5500, 0x90909090, 0x94949494, 0xA4A4A4A4, 0xA9A59450, 0x2A0A4250] ++
  [0xA5945040, 0x0A425054, 0xA5A5A500, 0x55A0A0A0, 0xA8A85454, 0x6A6A4040, 0xA4A45000, 0x1A1A0500,
   0x0050A4A4, 0xAAA59090, 0x14696914, 0x69691400, 0xA08585A0, 0xAA821414, 0x50A4A450, 0x6A5A0200] ++
  [0xA9A58000, 0x5090A0A8, 0xA8A09050, 0x24242424, 0x00AA5500, 0x24924924, 0x24499224, 0x50A50A50,
   0x500AA550, 0xAAAA4444, 0x66660000, 0xA5A0A5A0, 0x50A050A0, 0x69286928, 0x44AAAA44, 0x66666600] ++
  [0xAA444444, 0x54A854A8, 0x95809580, 0x96969600, 0xA85454A8, 0x80959580, 0xAA141414, 0x96960000,
   0xAAAA1414, 0xA05050A0, 0xA0A5A5A0, 0x96000000, 0x40804080, 0xA9A8A9A8, 0xAAAAAA44, 0x2A4A5254]

/-- ROM table Anchor3A (R55). -/
def anchor3ARow : List (Fin 16) :=
  [3, 3, 15, 15, 8, 3, 15, 15,
   8, 8, 6, 6, 6, 5, 3, 3] ++
  [3, 3, 8, 15, 3, 3, 6, 10,
   5, 8, 8, 6, 8, 5, 15, 15] ++
  [8, 15, 3, 5, 6, 10, 8, 15,
   15, 3, 15, 5, 15, 15, 15, 15] ++
  [3, 15, 5, 5, 5, 8, 5, 10,
   5, 10, 8, 13, 15, 12, 3, 3]

/-- ROM table Anchor3B (R55). -/
def anchor3BRow : List (Fin 16) :=
  [15, 8, 8, 3, 15, 15, 3, 8,
   15, 15, 15, 15, 15, 15, 15, 8] ++
  [15, 8, 15, 3, 15, 8, 15, 8,
   3, 15, 6, 10, 15, 15, 10, 8] ++
  [15, 3, 15, 10, 10, 8, 9, 10,
   6, 15, 8, 15, 3, 6, 6, 8] ++
  [15, 3, 15, 15, 15, 15, 15, 15,
   15, 15, 15, 15, 3, 15, 15, 8]

/-- ROM table W2 (R56). -/
def w2 : List Nat := [0, 21, 43, 64]
/-- ROM table W3 (R57). -/
def w3 : List Nat := [0, 9, 18, 27, 37, 46, 55, 64]
/-- ROM table W4 (R57). -/
def w4 : List Nat := [0, 4, 9, 13, 17, 21, 26, 30, 34, 38, 43, 47, 51, 55, 60, 64]

/-- `P2[p][i]` (R52), a subset id 0 or 1. The table has a row for every 6-bit p (R145). -/
def p2 (p : BitVec 6) (i : Fin 16) : Fin 3 := Fin.ofNat 3 ((p2Mask.getD p.toNat 0 >>> i.val) % 2)

/-- `P3[p][i]` (R54), a subset id 0, 1 or 2. No packed entry is 3, so nothing is reduced. -/
def p3 (p : BitVec 6) (i : Fin 16) : Fin 3 := Fin.ofNat 3 ((p3Packed.getD p.toNat 0 >>> (2 * i.val)) % 4)

/-- `Anchor2[p]` (R53). -/
def anchor2 (p : BitVec 6) : Fin 16 := anchor2Row.getD p.toNat 0
/-- `Anchor3A[p]` (R55). -/
def anchor3A (p : BitVec 6) : Fin 16 := anchor3ARow.getD p.toNat 0
/-- `Anchor3B[p]` (R55). -/
def anchor3B (p : BitVec 6) : Fin 16 := anchor3BRow.getD p.toNat 0

/-- The subset of pixel i, the table chosen by ns (R160). -/
def subsetAt (ns : Subsets) (p : BitVec 6) (i : Fin 16) : Fin 3 :=
  match ns with
  | .one => 0
  | .two => p2 p i
  | .three => p3 p i

/-- The anchor set A of the primary index set (R162). -/
def anchorSet (ns : Subsets) (p : BitVec 6) : List (Fin 16) :=
  match ns with
  | .one => [0]
  | .two => [0, anchor2 p]
  | .three => [0, anchor3A p, anchor3B p]

/-- Whether pixel i is an anchor of the primary index set (R163). -/
def isAnchor (ns : Subsets) (p : BitVec 6) (i : Fin 16) : Bool := (anchorSet ns p).contains i

/-- The secondary index set's only anchor is pixel 0, whatever the partition (R163, R202). -/
def isAnchor2nd (i : Fin 16) : Bool := i == 0

/-- `weight(b, v)` (R205). An index set of width b holds values below 2^b (R204); the table is addressed by the low b
bits of v, which changes nothing for such a v (log 16). -/
def weight (b : IndexWidth) (v : Nat) : Nat :=
  match b with
  | .two => w2.getD (v % 4) 0
  | .three => w3.getD (v % 8) 0
  | .four => w4.getD (v % 16) 0

end Sys2Proof.Rom
end

