-- ==== Sys2Proof/WellFormed.lean ====
section
/-! DEFINITION. Which instructions a block can hold. Every width is in the operand's type; what is left is the anchors:
an anchor's index is stored with ib-1 bits, its top bit is 0 (R201), so "an anchor's value must be below 2^(ib-1)" (R123). -/

namespace Sys2Proof

/-- Every pixel that `anchor` marks has an index below 2^(w-1) (R123, R201). -/
def anchorsLow {w : Nat} (anchor : Fin 16 → Bool) (idx : Vector (BitVec w) 16) : Bool :=
  (List.finRange 16).all fun i => !anchor i || decide ((idx[i]).toNat < 2 ^ (w - 1))

/-- Well-formedness, one check for each index set. -/
def Instr.wellFormed : Instr → Bool
  | .mode0 p _ _ ix => anchorsLow (Rom.isAnchor .three (p.setWidth 6)) ix
  | .mode1 p _ _ ix => anchorsLow (Rom.isAnchor .two p) ix
  | .mode2 p _ ix => anchorsLow (Rom.isAnchor .three p) ix
  | .mode3 p _ _ ix => anchorsLow (Rom.isAnchor .two p) ix
  | .mode4 _ _ _ _ ix ix2 => anchorsLow (Rom.isAnchor .one 0) ix && anchorsLow Rom.isAnchor2nd ix2
  | .mode5 _ _ _ ix ix2 => anchorsLow (Rom.isAnchor .one 0) ix && anchorsLow Rom.isAnchor2nd ix2
  | .mode6 _ _ _ ix => anchorsLow (Rom.isAnchor .one 0) ix
  | .mode7 p _ _ _ ix => anchorsLow (Rom.isAnchor .two p) ix
  | .reserved _ => true

end Sys2Proof
end

