-- ==== Sys2Proof/Decode.lean ====
section
/-! DEFINITION. Decoding a block to its instruction, by the field positions of R105 to R108, and after it the encoder,
by the field order of R103. Decoding is total on bytes: fewer than 16 are refused by name (P1), and every 128-bit
block is one of the nine instructions (R265). -/

namespace Sys2Proof

/-! ## The mode (R101, R102, R142) -/

/-- The mode numbers in ascending order. -/
def modeNumbers : List (Fin 8) := [0, 1, 2, 3, 4, 5, 6, 7]

/-- Mode detection (R142): the least k in 0..7 with `blk[k] = 1`; Reserved when there is none. -/
def detect (blk : Block) : Mode :=
  match modeNumbers.find? (fun k => blk.getLsbD k.val) with
  | some m => .valid m
  | none => .reserved

/-! ## Field positions (R105 to R108) -/

/-- `base`, the position just after prefix, partition, rotation and selector (R105). -/
def basePos (m : Fin 8) : Nat := m.val + 1 + (Rom.mode m).pb + (Rom.mode m).rb + (Rom.mode m).isb

/-- `lo(colour c, endpoint e)` (R105). -/
def colourPos (m : Fin 8) (c e : Nat) : Nat := basePos m + (c * (Rom.mode m).ne + e) * (Rom.mode m).cb

/-- `lo(alpha, endpoint e)` (R105). -/
def alphaPos (m : Fin 8) (e : Nat) : Nat := basePos m + 3 * (Rom.mode m).ne * (Rom.mode m).cb + e * (Rom.mode m).ab

/-- `pbase` (R106). -/
def pbitBase (m : Fin 8) : Nat :=
  basePos m + 3 * (Rom.mode m).ne * (Rom.mode m).cb + (Rom.mode m).ne * (Rom.mode m).ab

/-- `ibase` (R107). -/
def idx1Base (m : Fin 8) : Nat :=
  pbitBase m + (Rom.mode m).ne * (Rom.mode m).epb.toNat + (Rom.mode m).ns.count * (Rom.mode m).spb.toNat

/-- `ibase2` (R108). -/
def idx2Base (m : Fin 8) : Nat := idx1Base m + 16 * (Rom.mode m).ib.bits - 1

/-- The width of pixel j's index field: one bit less at an anchor (R107, R108). -/
def idxWidth (anchor : Fin 16 → Bool) (w : Nat) (j : Fin 16) : Nat := if anchor j then w - 1 else w

/-- `Σ_{j<i} width(j)`, the offset of pixel i's index field from its set's base (R107, R108). -/
def idxOffset (anchor : Fin 16 → Bool) (w : Nat) : Nat → Nat
  | 0 => 0
  | i + 1 => idxOffset anchor w i + idxWidth anchor w (Fin.ofNat 16 i)

/-! ## The operands -/

/-- The colour fields of the k endpoints of mode m, `w` = its cb. -/
def colourFields (m : Fin 8) (k w : Nat) (blk : Block) : Vector (Colour w) k :=
  Vector.ofFn fun e =>
    ⟨field blk (colourPos m 0 e.val) w, field blk (colourPos m 1 e.val) w, field blk (colourPos m 2 e.val) w⟩

/-- The alpha fields of the k endpoints of mode m, `w` = its ab. -/
def alphaFields (m : Fin 8) (k w : Nat) (blk : Block) : Vector (BitVec w) k :=
  Vector.ofFn fun e => field blk (alphaPos m e.val) w

/-- The k p-bits of mode m: one an endpoint (epb) or one a subset (spb) (R106). -/
def pbitFields (m : Fin 8) (k : Nat) (blk : Block) : Vector (BitVec 1) k :=
  Vector.ofFn fun e => field blk (pbitBase m + e.val) 1

/-- An index set of width `w` from position `start`: an anchor's w-1 bits zero-extended (R201). -/
def idxFields (start w : Nat) (anchor : Fin 16 → Bool) (blk : Block) : Vector (BitVec w) 16 :=
  Vector.ofFn fun i => (field blk (start + idxOffset anchor w i.val) (idxWidth anchor w i)).setWidth w

/-- The instruction a 128-bit block holds (R101 to R109). -/
def decodeBlock (blk : Block) : Instr :=
  match detect blk with
  | .reserved => .reserved (field blk 8 120)
  | .valid 0 =>
    let p := field blk 1 4
    .mode0 p (colourFields 0 6 4 blk) (pbitFields 0 6 blk)
      (idxFields (idx1Base 0) 3 (Rom.isAnchor .three (p.setWidth 6)) blk)
  | .valid 1 =>
    let p := field blk 2 6
    .mode1 p (colourFields 1 4 6 blk) (pbitFields 1 2 blk) (idxFields (idx1Base 1) 3 (Rom.isAnchor .two p) blk)
  | .valid 2 =>
    let p := field blk 3 6
    .mode2 p (colourFields 2 6 5 blk) (idxFields (idx1Base 2) 2 (Rom.isAnchor .three p) blk)
  | .valid 3 =>
    let p := field blk 4 6
    .mode3 p (colourFields 3 4 7 blk) (pbitFields 3 4 blk) (idxFields (idx1Base 3) 2 (Rom.isAnchor .two p) blk)
  | .valid 4 =>
    .mode4 (field blk 5 2) (field blk 7 1) (colourFields 4 2 5 blk) (alphaFields 4 2 6 blk)
      (idxFields (idx1Base 4) 2 (Rom.isAnchor .one 0) blk) (idxFields (idx2Base 4) 3 Rom.isAnchor2nd blk)
  | .valid 5 =>
    .mode5 (field blk 6 2) (colourFields 5 2 7 blk) (alphaFields 5 2 8 blk)
      (idxFields (idx1Base 5) 2 (Rom.isAnchor .one 0) blk) (idxFields (idx2Base 5) 2 Rom.isAnchor2nd blk)
  | .valid 6 =>
    .mode6 (colourFields 6 2 7 blk) (alphaFields 6 2 7 blk) (pbitFields 6 2 blk)
      (idxFields (idx1Base 6) 4 (Rom.isAnchor .one 0) blk)
  | .valid 7 =>
    let p := field blk 8 6
    .mode7 p (colourFields 7 4 5 blk) (alphaFields 7 4 5 blk) (pbitFields 7 4 blk)
      (idxFields (idx1Base 7) 2 (Rom.isAnchor .two p) blk)

/-- Why bytes decode to no instruction. -/
inductive DecodeError where
  /-- Fewer than 16 bytes are left: "behavior is undefined if fewer are supplied" (R284, 92 D10). -/
  | shortBlock
deriving DecidableEq, Repr

/-- Decodes the first 16 bytes and answers the instruction with the rest of the bytes (R100). -/
def decode (bytes : List Byte) : Except DecodeError (Instr × List Byte) :=
  if bytes.length < Config.blockBytes then .error .shortBlock
  else .ok (decodeBlock (blockOfBytes (bytes.take Config.blockBytes)), bytes.drop Config.blockBytes)

/-! ## The encoder (R103): the fields in stream order, each a width and a value -/

/-- The mode prefix: m zero bits, then a one (R101). -/
def prefixSeg (m : Fin 8) : List (Nat × Nat) := [(m.val + 1, 2 ^ m.val)]

/-- One field. -/
def fieldSeg {w : Nat} (v : BitVec w) : List (Nat × Nat) := [(w, v.toNat)]

/-- One field an entry, in order: alpha endpoints, p-bits. -/
def vectorSegs {w k : Nat} (vs : Vector (BitVec w) k) : List (Nat × Nat) :=
  (List.finRange k).map fun e => (w, (vs[e]).toNat)

/-- The colour endpoints, channel-major: R of every endpoint, then G, then B (R103 item 4). -/
def colourSegs {w k : Nat} (cs : Vector (Colour w) k) : List (Nat × Nat) :=
  ((List.finRange k).map fun e => (w, (cs[e]).r.toNat)) ++
  ((List.finRange k).map fun e => (w, (cs[e]).g.toNat)) ++
  ((List.finRange k).map fun e => (w, (cs[e]).b.toNat))

/-- An index set, pixels 0..15 in order, one bit less at an anchor (R103 items 7 and 8). -/
def idxSegs {w : Nat} (anchor : Fin 16 → Bool) (ix : Vector (BitVec w) 16) : List (Nat × Nat) :=
  (List.finRange 16).map fun i => (idxWidth anchor w i, (ix[i]).toNat)

/-- The fields of an instruction in stream order (R103). -/
def Instr.segments : Instr → List (Nat × Nat)
  | .mode0 p c pb ix =>
    prefixSeg 0 ++ fieldSeg p ++ colourSegs c ++ vectorSegs pb ++ idxSegs (Rom.isAnchor .three (p.setWidth 6)) ix
  | .mode1 p c sp ix => prefixSeg 1 ++ fieldSeg p ++ colourSegs c ++ vectorSegs sp ++ idxSegs (Rom.isAnchor .two p) ix
  | .mode2 p c ix => prefixSeg 2 ++ fieldSeg p ++ colourSegs c ++ idxSegs (Rom.isAnchor .three p) ix
  | .mode3 p c pb ix => prefixSeg 3 ++ fieldSeg p ++ colourSegs c ++ vectorSegs pb ++ idxSegs (Rom.isAnchor .two p) ix
  | .mode4 r sel c a ix ix2 =>
    prefixSeg 4 ++ fieldSeg r ++ fieldSeg sel ++ colourSegs c ++ vectorSegs a ++
      idxSegs (Rom.isAnchor .one 0) ix ++ idxSegs Rom.isAnchor2nd ix2
  | .mode5 r c a ix ix2 =>
    prefixSeg 5 ++ fieldSeg r ++ colourSegs c ++ vectorSegs a ++
      idxSegs (Rom.isAnchor .one 0) ix ++ idxSegs Rom.isAnchor2nd ix2
  | .mode6 c a pb ix =>
    prefixSeg 6 ++ colourSegs c ++ vectorSegs a ++ vectorSegs pb ++ idxSegs (Rom.isAnchor .one 0) ix
  | .mode7 p c a pb ix =>
    prefixSeg 7 ++ fieldSeg p ++ colourSegs c ++ vectorSegs a ++ vectorSegs pb ++ idxSegs (Rom.isAnchor .two p) ix
  | .reserved u => [(8, 0), (120, u.toNat)]

/-- The number whose bits are the fields laid end to end, the first lowest. -/
def pack : List (Nat × Nat) → Nat
  | [] => 0
  | (w, v) :: rest => v % 2 ^ w + 2 ^ w * pack rest

/-- The block of an instruction. -/
def encodeBlock (i : Instr) : Block := BitVec.ofNat 128 (pack i.segments)

/-- The 16 bytes of an instruction, byte 0 first. -/
def encode (i : Instr) : List Byte := bytesOfBlock (encodeBlock i)

/-! ## The opcode table's rows -/

/-- The instruction the decoder reads from the 16 bytes whose low `nbits` bits are w's and whose other bits are 0
(byte j is bits 8j+7..8j). -/
def decodeTableWord (nbits w : Nat) : Option Instr :=
  match decode (bytesOfBlock (BitVec.ofNat 128 (w % 2 ^ nbits))) with
  | .ok (i, _) => some i
  | .error _ => none

end Sys2Proof
end

