-- ==== Sys2Proof/Machine/Operands.lean ====
section
/-! DEFINITION. The operand forms: how raw fields become 8-bit endpoints (R182 to R184), how indices become weights
(R205, R223 to R225), the blend (R220) and the channel rotation (R227). Everything is an unsigned integer (R12, R222). -/

namespace Sys2Proof.Machine

/-- Zero-extension of the colour fields to the width of `epRaw` (R118). -/
def widen {w : Nat} (c : Colour w) : Colour 8 := ⟨c.r.setWidth 8, c.g.setWidth 8, c.b.setWidth 8⟩

/-- Entry e of an operand list; entries past its end are never asked for by the shared operations. -/
def nth {α : Type} [Inhabited α] {k : Nat} (v : Vector α k) (e : Nat) : α := if h : e < k then v[e] else default

/-- `dq(v, n)`, bit replication (R182). -/
def dq (v n : Nat) : Byte :=
  let t := v <<< (8 - n)
  BitVec.ofNat 8 ((t ||| (t >>> n)) &&& 0xFF)

/-- `dqChan(raw, bits, p)`; `none` is the spec's NONE (R183). -/
def dqChan (raw : Byte) (bits : Nat) : Option (BitVec 1) → Byte
  | none => dq raw.toNat bits
  | some p => dq ((raw.toNat <<< 1) ||| p.toNat) (bits + 1)

/-- `p(e)`: the endpoint's p-bit when the mode has p-bits, else NONE (R184). -/
def pOf (d : ModeDesc) (pbit : BitVec 1) : Option (BitVec 1) := if d.epb || d.spb then some pbit else none

/-- One dequantized endpoint (R184). A mode with no alpha field gets alpha 255 (92 D6). -/
def dqEndpoint (d : ModeDesc) (raw : Rgba) (p : Option (BitVec 1)) : Rgba where
  r := dqChan raw.r d.cb p
  g := dqChan raw.g d.cb p
  b := dqChan raw.b d.cb p
  a := if 0 < d.ab then dqChan raw.a d.ab p else 255

/-- `interp(a, b, w)` (R220). -/
def interp (a b : Byte) (w : Nat) : Byte := BitVec.ofNat 8 ((a.toNat * (64 - w) + b.toNat * w + 32) >>> 6)

/-- The colour weight and the alpha weight of a pixel (R223 to R225). -/
def weightsOf (d : ModeDesc) (idxSel : BitVec 1) (i1 : BitVec 4) (i2 : BitVec 3) : Nat × Nat :=
  let w1 := Rom.weight d.ib i1.toNat
  match d.ib2 with
  | none => (w1, w1)
  | some b2 =>
    let w2 := Rom.weight b2 i2.toNat
    if idxSel = 0 then (w1, w2) else (w2, w1)

/-- The blend of two endpoints, colour and alpha with their own weights (R226). -/
def blend (lo hi : Rgba) (cw aw : Nat) : Rgba :=
  ⟨interp lo.r hi.r cw, interp lo.g hi.g cw, interp lo.b hi.b cw, interp lo.a hi.a aw⟩

/-- The channel rotation of one pixel (R227). -/
def rotate (rotation : BitVec 2) (p : Rgba) : Rgba :=
  if rotation = 0 then p
  else if rotation = 1 then { p with a := p.r, r := p.a }
  else if rotation = 2 then { p with a := p.g, g := p.a }
  else { p with a := p.b, b := p.a }

/-- The pixel of the Reserved fallback, opaque black (R262). -/
def opaqueBlack : Rgba := ⟨0, 0, 0, 255⟩

/-- A pixel as the 32-bit word `R | G<<8 | B<<16 | A<<24` (R84, R86). -/
def rgbaWord (p : Rgba) : BitVec 32 := p.a ++ p.b ++ p.g ++ p.r

end Sys2Proof.Machine
end

