-- ==== Sys2Proof/Machine/Ops.lean ====
section
/-! DEFINITION. The named operations every decode is made of: memory, the working registers, the states of the
sequencer that both the meanings and the sequencer run (R250), acceptance of a request (R251), and reset (R300, R301).
The unit raises no exception and has no trap to enter or to return from (R280, R289): there is no such operation. -/

namespace Sys2Proof.Machine

/-! ## destRGBA (R80, R84 to R86) -/

/-- The byte at an offset; `none` where nothing has written it. -/
def Memory.read (m : Memory) (a : Nat) : Option Byte :=
  match m with
  | [] => none
  | (a', b) :: rest => if a = a' then some b else Memory.read rest a

/-- Writes one byte, keeping the offsets strictly rising. -/
def Memory.write (m : Memory) (a : Nat) (b : Byte) : Memory :=
  match m with
  | [] => [(a, b)]
  | (a', b') :: rest =>
    if a < a' then (a, b) :: (a', b') :: rest
    else if a = a' then (a, b) :: rest
    else (a', b') :: Memory.write rest a b

/-- `MemWrite(off, 4, v)`: byte k of v at off + k (R86). -/
def Memory.write4 (m : Memory) (off : Nat) (v : BitVec 32) : Memory :=
  (((m.write off (v.extractLsb' 0 8)).write (off + 1) (v.extractLsb' 8 8)).write (off + 2)
    (v.extractLsb' 16 8)).write (off + 3) (v.extractLsb' 24 8)

/-- The pixel numbers in ascending order (R14). -/
def pixelNumbers : List (Fin 16) := List.finRange 16

/-- The image column X of pixel i (R85): naturals, no wrap. -/
def State.pixelX (s : State) (i : Fin 16) : Nat := s.blockX * 4 + i.val % 4

/-- The image row Y of pixel i (R85). -/
def State.pixelY (s : State) (i : Fin 16) : Nat := s.blockY * 4 + i.val / 4

/-- The bounds test of a pixel write (R86, R263). -/
def State.inBounds (s : State) (i : Fin 16) : Bool :=
  decide (s.pixelX i < s.imageWidth) && decide (s.pixelY i < s.imageHeight)

/-- `off(i)`, the byte offset of pixel i (R85). -/
def State.pixelOffset (s : State) (i : Fin 16) : Nat := (s.pixelY i * s.imageWidth + s.pixelX i) * 4

/-- Writes pixel i when it is in bounds (R86). -/
def State.writePixel (s : State) (m : Memory) (i : Fin 16) : Memory :=
  if s.inBounds i then m.write4 (s.pixelOffset i) (rgbaWord s.px[i]) else m

/-- The pixel writes of a decode, in a given order (R263); the spec leaves the order open (R93, log 13). -/
def State.writePixels (s : State) (order : List (Fin 16)) (m : Memory) : Memory := order.foldl s.writePixel m

/-- Whether offset `a` lies in the clipped footprint of the latched request (R264). -/
def State.inFootprint (s : State) (a : Nat) : Bool :=
  pixelNumbers.any fun i => s.inBounds i && decide (s.pixelOffset i ≤ a) && decide (a < s.pixelOffset i + 4)

/-! ## The caller's duties at the buffer (R283 to R286) -/

/-- The byte offsets of the pixels a region writes (R85, R86). -/
def Region.offsets (g : Region) : List Nat :=
  (pixelNumbers.filter fun i =>
    decide (g.blockX * 4 + i.val % 4 < g.imageWidth) && decide (g.blockY * 4 + i.val / 4 < g.imageHeight)).map
    fun i => ((g.blockY * 4 + i.val / 4) * g.imageWidth + (g.blockX * 4 + i.val % 4)) * 4

/-- Whether a byte lies in a pixel that a region writes. -/
def Region.covers (g : Region) (a : Nat) : Bool := g.offsets.any fun p => decide (p ≤ a) && decide (a < p + 4)

/-- The region of the latched request. -/
def State.region (s : State) : Region := ⟨s.blockX, s.blockY, s.imageWidth, s.imageHeight⟩

/-- Two regions write a byte in common. Every pixel is 4 bytes at a multiple of 4 (R87), so they share a pixel offset. -/
def Region.overlaps (g h : Region) : Bool := g.offsets.any fun a => h.offsets.contains a

/-- P2: `destRGBA` holds at least W·H·4 bytes (R283, R285). -/
def State.bufferFits (s : State) : Bool := decide (s.imageWidth * s.imageHeight * 4 ≤ s.destLen)

/-- P3: no decode in flight writes into the footprint (R283, R286). -/
def State.footprintFree (s : State) : Bool := !s.inFlight.any fun g => g.overlaps s.region

/-! ## The working registers -/

/-- `DetectMode` of a valid mode: mode and descriptor (R142, R143). -/
def State.enterMode (m : Fin 8) (s : State) : State := { s with mode := .valid m, desc := Rom.mode m }

/-- `DetectMode` of a Reserved block: the fill of R262. `desc` is undefined (R38): a free value (log 5). -/
def State.enterReserved (s : State) : State :=
  { s with
    mode := .reserved
    desc := Config.freeDesc s.freeCount
    freeCount := s.freeCount + 1
    px := tab16 fun _ => opaqueBlack }

/-- The bit cursor (R36). -/
def State.putCursor (pos : Nat) (s : State) : State := { s with bitPos := pos }

/-- The partition selector (R160, R163): it runs at the end of `ReadPartitionRotationSelector` (R250). -/
def State.selectPartition (s : State) : State :=
  { s with
    subsetOf := tab16 fun i => Rom.subsetAt s.desc.ns s.partition i
    anchor := tab16 fun i => Rom.isAnchor s.desc.ns s.partition i }

/-- The header registers (R144), then the partition selector. -/
def State.putHeader (p : BitVec 6) (rot : BitVec 2) (sel : BitVec 1) (s : State) : State :=
  State.selectPartition { s with partition := p, rotation := rot, idxSel := sel }

/-- The colour channels of endpoints 0..n-1 (R180). -/
def State.putColour (n : Nat) (c : Nat → Colour 8) (s : State) : State :=
  { s with
    epRaw := tab6 fun e =>
      if e.val < n then { s.epRaw[e] with r := (c e.val).r, g := (c e.val).g, b := (c e.val).b } else s.epRaw[e] }

/-- The alpha channel of endpoints 0..n-1 (R180). -/
def State.putAlpha (n : Nat) (a : Nat → Byte) (s : State) : State :=
  { s with epRaw := tab6 fun e => if e.val < n then { s.epRaw[e] with a := a e.val } else s.epRaw[e] }

/-- Per-endpoint p-bits of endpoints 0..n-1 (R181). -/
def State.putPBits (n : Nat) (p : Nat → BitVec 1) (s : State) : State :=
  { s with pbit := tab6 fun e => if e.val < n then p e.val else s.pbit[e] }

/-- Shared p-bits of subsets 0..n-1; endpoint e of the first 2n uses that of subset e >> 1 (R181). -/
def State.putSharedPBits (n : Nat) (p : Nat → BitVec 1) (s : State) : State :=
  { s with
    sp := tab3 fun t => if t.val < n then p t.val else s.sp[t]
    pbit := tab6 fun e => if e.val < 2 * n then p (e.val / 2) else s.pbit[e] }

/-- The primary indices (R200). -/
def State.putIdx1 (v : Fin 16 → BitVec 4) (s : State) : State := { s with idx1 := tab16 v }

/-- The secondary indices (R202). -/
def State.putIdx2 (v : Fin 16 → BitVec 3) (s : State) : State := { s with idx2 := tab16 v }

/-- `Dequantize` (R184): endpoints 0..NE-1. -/
def State.dequantize (s : State) : State :=
  { s with
    ep := tab6 fun e =>
      if e.val < s.desc.ne then dqEndpoint s.desc s.epRaw[e] (pOf s.desc s.pbit[e]) else s.ep[e] }

/-- The low endpoint of pixel i's subset (R161). -/
def State.loEndpoint (s : State) (i : Fin 16) : Rgba := s.ep[2 * (s.subsetOf[i]).val]

/-- The high endpoint of pixel i's subset (R161). -/
def State.hiEndpoint (s : State) (i : Fin 16) : Rgba := s.ep[2 * (s.subsetOf[i]).val + 1]

/-- The blended pixel i, before the rotation (R226). -/
def State.blendedPixel (s : State) (i : Fin 16) : Rgba :=
  let w := weightsOf s.desc s.idxSel s.idx1[i] s.idx2[i]
  blend (s.loEndpoint i) (s.hiEndpoint i) w.1 w.2

/-- `InterpolatePixels` (R226). -/
def State.interpolatePixels (s : State) : State := { s with px := tab16 fun i => s.blendedPixel i }

/-- `ApplyRotation` (R227). -/
def State.applyRotation (s : State) : State := { s with px := tab16 fun i => rotate s.rotation s.px[i] }

/-- `WriteOutput` (R263), under the caller's duties P2 and P3 (R285, R286). -/
def State.writeOutput (s : State) : Host.Outcome State Fault Refusal :=
  if !s.bufferFits then .refused .bufferTooSmall
  else if !s.footprintFree then .refused .footprintInUse
  else .next (State.complete { s with dest := s.writePixels pixelNumbers s.dest })

/-- The end of every valid decode (R252): the whole block is read (`bitPos = 128`), then `InterpolatePixels`,
`ApplyRotation` and `WriteOutput`. -/
def State.finishDecode (s : State) : Host.Outcome State Fault Refusal :=
  (s.putCursor Config.blockBits).interpolatePixels.applyRotation.writeOutput

/-! ## Acceptance of a request (R251) -/

/-- The instruction of a request; P1 is broken by any number of bytes other than 16 (R284). -/
def fetch (r : Request) : Except Refusal Instr :=
  match decode r.blockBytes with
  | .ok (i, []) => .ok i
  | .ok (_, _ :: _) => .error .blockNotSixteenBytes
  | .error .shortBlock => .error .blockNotSixteenBytes

/-- Latches a request and moves to `DetectMode` with `bitPos <- 0` (R251, R97); `rest` is what stays presented. -/
def State.accept (r : Request) (rest : List Request) (s : State) : State :=
  { s with
    seq := .detectMode
    requests := rest
    blk := blockOfBytes r.blockBytes
    blockX := r.blockX
    blockY := r.blockY
    imageWidth := r.imageWidth
    imageHeight := r.imageHeight
    bitPos := 0
    completion := false }

end Sys2Proof.Machine
end

