-- ==== Sys2Proof/Machine/AlphaModes.lean ====
section
/-! DEFINITION. The meanings of MODE6 and MODE7 (R259, R260), the modes whose alpha shares the colour's indices. -/

namespace Sys2Proof.Machine

/-- MODE6 (R259): one subset, 7-bit colour and alpha, a p-bit an endpoint, 4-bit indices. -/
def execMode6 (colour : Vector (Colour 7) 2) (alpha : Vector (BitVec 7) 2) (pbits : Vector (BitVec 1) 2)
    (idx1 : Vector (BitVec 4) 16) (s : State) : Host.Outcome State Fault Refusal :=
  let s := (s.enterMode 6).putHeader 0 0 0
  let s := (s.putColour 2 fun e => widen (nth colour e)).putAlpha 2 fun e => (nth alpha e).setWidth 8
  let s := (s.putPBits 2 (nth pbits)).dequantize
  (s.putIdx1 fun i => idx1[i]).finishDecode

/-- MODE7 (R260): two subsets, 5-bit colour and alpha, a p-bit an endpoint, 2-bit indices. -/
def execMode7 (partition : BitVec 6) (colour : Vector (Colour 5) 4) (alpha : Vector (BitVec 5) 4)
    (pbits : Vector (BitVec 1) 4) (idx1 : Vector (BitVec 2) 16) (s : State) : Host.Outcome State Fault Refusal :=
  let s := (s.enterMode 7).putHeader partition 0 0
  let s := (s.putColour 4 fun e => widen (nth colour e)).putAlpha 4 fun e => (nth alpha e).setWidth 8
  let s := (s.putPBits 4 (nth pbits)).dequantize
  (s.putIdx1 fun i => (idx1[i]).setWidth 4).finishDecode

end Sys2Proof.Machine
end

