-- ==== Sys2Proof/Machine/ColourModes.lean ====
section
/-! DEFINITION. The meanings of MODE0 to MODE3 (R253 to R256), the modes with no alpha channel. Each puts the block's
fields into the working registers in the order of R252 and hands over to the shared stages. The unit raises no
exception in any mode (R280). -/

namespace Sys2Proof.Machine

/-- MODE0 (R253): three subsets, 4-bit colour, a p-bit an endpoint, 3-bit indices. -/
def execMode0 (partition : BitVec 4) (colour : Vector (Colour 4) 6) (pbits : Vector (BitVec 1) 6)
    (idx1 : Vector (BitVec 3) 16) (s : State) : Host.Outcome State Fault Refusal :=
  let s := (s.enterMode 0).putHeader (partition.setWidth 6) 0 0
  let s := s.putColour 6 fun e => widen (nth colour e)
  let s := (s.putPBits 6 (nth pbits)).dequantize
  (s.putIdx1 fun i => (idx1[i]).setWidth 4).finishDecode

/-- MODE1 (R254): two subsets, 6-bit colour, a p-bit a subset, 3-bit indices. -/
def execMode1 (partition : BitVec 6) (colour : Vector (Colour 6) 4) (sp : Vector (BitVec 1) 2)
    (idx1 : Vector (BitVec 3) 16) (s : State) : Host.Outcome State Fault Refusal :=
  let s := (s.enterMode 1).putHeader partition 0 0
  let s := s.putColour 4 fun e => widen (nth colour e)
  let s := (s.putSharedPBits 2 (nth sp)).dequantize
  (s.putIdx1 fun i => (idx1[i]).setWidth 4).finishDecode

/-- MODE2 (R255): three subsets, 5-bit colour, no p-bit, 2-bit indices. -/
def execMode2 (partition : BitVec 6) (colour : Vector (Colour 5) 6) (idx1 : Vector (BitVec 2) 16) (s : State) :
    Host.Outcome State Fault Refusal :=
  let s := (s.enterMode 2).putHeader partition 0 0
  let s := (s.putColour 6 fun e => widen (nth colour e)).dequantize
  (s.putIdx1 fun i => (idx1[i]).setWidth 4).finishDecode

/-- MODE3 (R256): two subsets, 7-bit colour, a p-bit an endpoint, 2-bit indices. -/
def execMode3 (partition : BitVec 6) (colour : Vector (Colour 7) 4) (pbits : Vector (BitVec 1) 4)
    (idx1 : Vector (BitVec 2) 16) (s : State) : Host.Outcome State Fault Refusal :=
  let s := (s.enterMode 3).putHeader partition 0 0
  let s := s.putColour 4 fun e => widen (nth colour e)
  let s := (s.putPBits 4 (nth pbits)).dequantize
  (s.putIdx1 fun i => (idx1[i]).setWidth 4).finishDecode

end Sys2Proof.Machine
end

