-- ==== Sys2Proof/Machine/DualIndexModes.lean ====
section
/-! DEFINITION. The meanings of MODE4 and MODE5 (R257, R258), the modes with two index sets and a rotation. -/

namespace Sys2Proof.Machine

/-- MODE4 (R257): one subset, 5-bit colour, 6-bit alpha, rotation, index selector, 2-bit and 3-bit indices. -/
def execMode4 (rotation : BitVec 2) (idxSel : BitVec 1) (colour : Vector (Colour 5) 2) (alpha : Vector (BitVec 6) 2)
    (idx1 : Vector (BitVec 2) 16) (idx2 : Vector (BitVec 3) 16) (s : State) : Host.Outcome State Fault Refusal :=
  let s := (s.enterMode 4).putHeader 0 rotation idxSel
  let s := s.putColour 2 fun e => widen (nth colour e)
  let s := (s.putAlpha 2 fun e => (nth alpha e).setWidth 8).dequantize
  ((s.putIdx1 fun i => (idx1[i]).setWidth 4).putIdx2 fun i => idx2[i]).finishDecode

/-- MODE5 (R258): one subset, 7-bit colour, 8-bit alpha, rotation, two 2-bit index sets. -/
def execMode5 (rotation : BitVec 2) (colour : Vector (Colour 7) 2) (alpha : Vector (BitVec 8) 2)
    (idx1 : Vector (BitVec 2) 16) (idx2 : Vector (BitVec 2) 16) (s : State) : Host.Outcome State Fault Refusal :=
  let s := (s.enterMode 5).putHeader 0 rotation 0
  let s := s.putColour 2 fun e => widen (nth colour e)
  let s := (s.putAlpha 2 (nth alpha)).dequantize
  ((s.putIdx1 fun i => (idx1[i]).setWidth 4).putIdx2 fun i => (idx2[i]).setWidth 3).finishDecode

end Sys2Proof.Machine
end

