-- ==== Sys2Proof/Machine/ReservedBlock.lean ====
section
/-! DEFINITION. The meaning of RESERVED (R261, R262). -/

namespace Sys2Proof.Machine

/-- RESERVED (R261): opaque black, clipped like any output; bits 127..8 are not read and the cursor stays at 0. -/
def execReserved (_unread : BitVec 120) (s : State) : Host.Outcome State Fault Refusal :=
  (s.enterReserved.putCursor 0).writeOutput

end Sys2Proof.Machine
end

