-- ==== Sys2Proof/Machine/Dispatch.lean ====
section
/-! DEFINITION. One arm per instruction. -/

namespace Sys2Proof.Machine

def exec (i : Instr) (s : State) : Host.Outcome State Fault Refusal :=
  match i with
  | .mode0 p c pb ix => Sys2Proof.Machine.execMode0 p c pb ix s
  | .mode1 p c sp ix => Sys2Proof.Machine.execMode1 p c sp ix s
  | .mode2 p c ix => Sys2Proof.Machine.execMode2 p c ix s
  | .mode3 p c pb ix => Sys2Proof.Machine.execMode3 p c pb ix s
  | .mode4 r sel c a ix jx => Sys2Proof.Machine.execMode4 r sel c a ix jx s
  | .mode5 r c a ix jx => Sys2Proof.Machine.execMode5 r c a ix jx s
  | .mode6 c a pb ix => Sys2Proof.Machine.execMode6 c a pb ix s
  | .mode7 p c a pb ix => Sys2Proof.Machine.execMode7 p c a pb ix s
  | .reserved u => Sys2Proof.Machine.execReserved u s

end Sys2Proof.Machine
end

