-- ==== Sys2Proof/Machine/Sequencer.lean ====
section
/-! DEFINITION. The sequencer one state at a time (R250): each state reads its fields from the latched block at the bit
cursor (R141) and hands over to the next. A decode is nine of these steps in a valid mode and two in Reserved, after
the step out of Idle (R310). -/

namespace Sys2Proof.Machine

/-- Reads fields of the widths listed at the cursor, advances it, and goes on with the values; a read out of range is
the model's assertion (R140, 92 D16). -/
def State.takeThen (ws : List Nat) (next : List Nat → State → State) (s : State) : Host.Outcome State Fault Refusal :=
  match takes s.blk s.bitPos ws with
  | none => .fault .readOutOfRange
  | some (vs, pos) => .next (next vs (s.putCursor pos))

/-- `DetectMode` (R142, R143, R262). -/
def State.detectState (s : State) : State :=
  match detect s.blk with
  | .reserved => { s.enterReserved with seq := .writeOutput }
  | .valid m => { (s.enterMode m).putCursor (m.val + 1) with seq := .readPartitionRotationSelector }

/-- `ReadPartitionRotationSelector` (R144, R160, R163). -/
def State.headerState (s : State) : Host.Outcome State Fault Refusal :=
  s.takeThen [s.desc.pb, s.desc.rb, s.desc.isb] fun vs t =>
    { t.putHeader (BitVec.ofNat 6 (vs.getD 0 0)) (BitVec.ofNat 2 (vs.getD 1 0)) (BitVec.ofNat 1 (vs.getD 2 0)) with
      seq := .readEndpointChannels }

/-- The widths `ReadEndpointChannels` takes: R of every endpoint, then G, then B, then A if the mode has it (R180). -/
def endpointWidths (d : ModeDesc) : List Nat :=
  List.replicate (3 * d.ne) d.cb ++ (if 0 < d.ab then List.replicate d.ne d.ab else [])

/-- Colour of endpoint e among the values taken, channel-major (R180, R105). -/
def colourTaken (ne : Nat) (vs : List Nat) (e : Nat) : Colour 8 :=
  ⟨BitVec.ofNat 8 (vs.getD e 0), BitVec.ofNat 8 (vs.getD (ne + e) 0), BitVec.ofNat 8 (vs.getD (2 * ne + e) 0)⟩

/-- `ReadEndpointChannels` (R180). -/
def State.endpointState (s : State) : Host.Outcome State Fault Refusal :=
  s.takeThen (endpointWidths s.desc) fun vs t =>
    let t := t.putColour t.desc.ne (colourTaken t.desc.ne vs)
    let t := if 0 < t.desc.ab then t.putAlpha t.desc.ne fun e => BitVec.ofNat 8 (vs.getD (3 * t.desc.ne + e) 0) else t
    { t with seq := .readPBits }

/-- The widths `ReadPBits` takes (R181). -/
def pbitWidths (d : ModeDesc) : List Nat :=
  if d.epb then List.replicate d.ne 1 else if d.spb then List.replicate d.ns.count 1 else []

/-- `ReadPBits` (R181). -/
def State.pbitState (s : State) : Host.Outcome State Fault Refusal :=
  s.takeThen (pbitWidths s.desc) fun vs t =>
    let t :=
      if t.desc.epb then t.putPBits t.desc.ne fun e => BitVec.ofNat 1 (vs.getD e 0)
      else if t.desc.spb then t.putSharedPBits t.desc.ns.count fun e => BitVec.ofNat 1 (vs.getD e 0)
      else t
    { t with seq := .dequantize }

/-- The widths of the primary indices: one bit less at each marked anchor (R200). -/
def State.idx1Widths (s : State) : List Nat :=
  pixelNumbers.map fun i => if s.anchor[i] then s.desc.ib.bits - 1 else s.desc.ib.bits

/-- The widths of the secondary indices: one bit less at pixel 0 (R202). -/
def idx2Widths (d : ModeDesc) : List Nat :=
  match d.ib2 with
  | none => []
  | some b => pixelNumbers.map fun i => if i = 0 then b.bits - 1 else b.bits

/-- `ReadIndices`: all primary indices, then all secondary ones (R200, R202, R203). -/
def State.indexState (s : State) : Host.Outcome State Fault Refusal :=
  s.takeThen (s.idx1Widths ++ idx2Widths s.desc) fun vs t =>
    let t := t.putIdx1 fun i => BitVec.ofNat 4 (vs.getD i.val 0)
    let t := if t.desc.ib2.isSome then t.putIdx2 fun i => BitVec.ofNat 3 (vs.getD (16 + i.val) 0) else t
    { t with seq := .interpolatePixels }

/-- One transition of the sequencer (R250). Idle with nothing presented stays Idle (log 7). -/
def State.tick (s : State) : Host.Outcome State Fault Refusal :=
  match s.seq with
  | .idle =>
    match s.requests with
    | [] => .next s.clearCompletion
    | r :: rest =>
      match fetch r with
      | .error why => .refused why
      | .ok _ => .next (s.accept r rest)
  | .detectMode => .next s.detectState
  | .readPartitionRotationSelector => s.headerState
  | .readEndpointChannels => s.endpointState
  | .readPBits => s.pbitState
  | .dequantize => .next { s.dequantize with seq := .readIndices }
  | .readIndices => s.indexState
  | .interpolatePixels => .next { s.interpolatePixels with seq := .applyRotation }
  | .applyRotation => .next { s.applyRotation with seq := .writeOutput }
  | .writeOutput => s.writeOutput

/-- At most k transitions, stopping when the unit is Idle. -/
def State.ticks : Nat → State → Host.Outcome State Fault Refusal
  | 0, s => .next s
  | k + 1, s =>
    if s.seq = .idle then .next s
    else
      match s.tick with
      | .next t => State.ticks k t
      | .fault f => .fault f
      | .refused r => .refused r

/-- The decode in progress run to its completion: nine transitions are enough (R310, R311). -/
def State.runToIdle (s : State) : Host.Outcome State Fault Refusal := s.ticks 9

/-! ## Reset (R300, R301) -/

/-- Every offset of the clipped footprint. -/
def State.footprint (s : State) : List Nat :=
  pixelNumbers.flatMap fun i =>
    if s.inBounds i then
      [s.pixelOffset i, s.pixelOffset i + 1, s.pixelOffset i + 2, s.pixelOffset i + 3]
    else []

/-- `prior` with the footprint bytes that `pick` chooses taken from `decoded`. -/
def mixBytes (pick : Nat → Bool) (decoded : Memory) (offsets : List Nat) (prior : Memory) : Memory :=
  offsets.foldl
    (fun m a =>
      match pick a, decoded.read a with
      | true, some b => m.write a b
      | _, _ => m)
    prior

/-- The registers after reset with the caller's side kept: what is presented, the buffer, the other instances. -/
def State.resetRegisters (m : Memory) (s : State) : State :=
  { State.reset with
    requests := s.requests
    dest := m
    destLen := s.destLen
    inFlight := s.inFlight
    freeCount := s.freeCount + 1 }

/-- Reset arrives (R300, R301): back to Idle with no completion. During a decode each footprint byte holds its prior or
its decoded value, in a free mix (log 12); a decode that has no meaning has none here either. -/
def State.resetUnit (s : State) : Host.Outcome State Fault Refusal :=
  if s.seq = .idle then .next (s.resetRegisters s.dest)
  else
    match s.runToIdle with
    | .next t => .next (s.resetRegisters (mixBytes (Config.freeResetMix s.freeCount) t.dest s.footprint s.dest))
    | .fault f => .fault f
    | .refused r => .refused r

/-- One move of a unit one state at a time: reset first if it is asked for, else the sequencer (log 12, log 21). -/
def State.resetOrTick (s : State) : Host.Outcome State Fault Refusal := if s.resetIn then s.resetUnit else s.tick

end Sys2Proof.Machine
end

