-- ==== Sys2Proof/Machine/Step.lean ====
section
/-! DEFINITION. One step of the machine. From Idle with a request presented it is one whole decode, "one atomic
transaction" (R8): the oldest request is accepted (R251) and its block's instruction runs. From a state inside a decode
it is one transition of the sequencer (R250), so that the two can be held against each other (log 1). -/

namespace Sys2Proof.Machine

/-- A step from Idle: the oldest request, or nothing (log 7). -/
def State.transaction (s : State) : Host.Outcome State Fault Refusal :=
  match s.requests with
  | [] => .next s.clearCompletion
  | r :: rest =>
    match fetch r with
    | .error why => .refused why
    | .ok i => exec i (s.accept r rest)

/-- One step. Reset is looked at first (R301, log 12). -/
def step (s : State) : Host.Outcome State Fault Refusal :=
  if s.resetIn then s.resetUnit
  else
    match s.seq with
    | .idle => s.transaction
    | _ => s.tick

/-- The state with the block of the low `nbits` bits of w presented as the oldest request, for block (0, 0) of a 4 by 4
image, in a buffer of at least the 64 bytes that takes, the unit Idle, no reset asked for and no other decode in flight:
its very next step runs that block (log 18). -/
def State.withFetchWord (s : State) (nbits w : Nat) : State :=
  { s with
    seq := .idle
    resetIn := false
    inFlight := []
    destLen := max s.destLen 64
    requests := ⟨bytesOfBlock (BitVec.ofNat 128 (w % 2 ^ nbits)), 0, 0, 4, 4⟩ :: s.requests }

end Sys2Proof.Machine
end

