-- ==== Sys2Proof/Machine/System.lean ====
section
/-! DEFINITION. Several decoder instances at once (R294): each with its own registers, sequencer and request port, all
on one `destRGBA`. N_UNITS is open (92 D26): any number. Each has its own reset input, which the spec neither gives nor
denies it (log 21). The order in which the instances move is an argument, so a
claim over every order is a claim about every interleaving of sequencer steps (R94, R95). -/

namespace Sys2Proof.Machine

/-- The instances and the buffer they share. A unit's own `dest`, `destLen` and `inFlight` are the system's while it
moves, and hold nothing in between. -/
structure System where
  units   : List State
  dest    : Memory
  destLen : Nat
deriving DecidableEq, Repr

/-- The regions instances other than k are decoding into, each from its acceptance to its completion (P3 of R283). -/
def System.othersInFlight (y : System) (k : Nat) : List Region :=
  (y.units.zipIdx.filter fun u => u.2 != k && u.1.seq != .idle).map fun u => u.1.region

/-- A unit with nothing of the shared buffer in it. -/
def State.detach (s : State) : State := { s with dest := [], destLen := 0, inFlight := [] }

/-- Unit k of the system, on the shared buffer. -/
def System.attach (y : System) (k : Nat) (u : State) : State :=
  { u with dest := y.dest, destLen := y.destLen, inFlight := y.othersInFlight k }

/-- One move of instance k, a sequencer transition or the reset that its `resetIn` asks for; no such instance, no change.
Its `WriteOutput` is refused when another decode in flight has a byte of its footprint (R95). DESIGN CHOICE (log 21): the
spec does not say whether or how reset reaches one instance among several (R294, R301). Here it reaches the instance
whose `resetIn` is up, when that one moves next, and no other; it mixes that instance's own footprint only. -/
def System.tick (y : System) (k : Nat) : Host.Outcome System Fault Refusal :=
  match y.units[k]? with
  | none => .next y
  | some u =>
    match (y.attach k u).resetOrTick with
    | .next t => .next { y with units := y.units.set k t.detach, dest := t.dest }
    | .fault f => .fault f
    | .refused r => .refused r

end Sys2Proof.Machine
end

