-- ==== Sys2Proof/Machine/HostPort.lean ====
section
/-! DEFINITION. What the caller can do between steps, and what it sees of `destRGBA` (R30 to R33, R89, R303, R306),
beside one unit or several. -/

namespace Sys2Proof.Machine

/-- The caller presents a request; it waits its turn and is not lost (R251, R308). -/
def State.present (r : Request) (s : State) : State := { s with requests := s.requests ++ [r] }

/-- The caller provides `destRGBA`: its length and the bytes whose contents it states (R303). -/
def State.giveBuffer (len : Nat) (cells : List Host.Cell) (s : State) : State :=
  { s with destLen := len, dest := cells.foldl (fun m c => m.write c.1 c.2) [] }

/-- The caller asks for reset (R301). -/
def State.assertReset (s : State) : State := { s with resetIn := true }

/-- A look number `k` at byte `a` of the footprint of the decode in progress: its prior or its decoded value, freely for
each byte, since no pixel write is atomic (R89, R306; log 11). A decode with no meaning (R284) shows nothing. -/
def State.decodeSight (s : State) (k a : Nat) : Option Byte :=
  match s.runToIdle with
  | .next t => if Config.freeSight k a then t.dest.read a else s.dest.read a
  | .fault _ => none
  | .refused _ => none

/-- What the caller's look number `k` sees of byte `a` beside one unit, `none` where the model does not know the byte. A
byte of the unit's own decode shows its prior or its decoded value. So does a byte that another instance is decoding (R89),
and as that decode's block is not in this unit's state, its decoded value is any byte (log 11). Every other byte is the
buffer's. -/
def State.visible (s : State) (k a : Nat) : Option Byte :=
  if s.seq ≠ .idle ∧ s.inFootprint a = true then s.decodeSight k a
  else if s.inFlight.any (fun g => g.covers a) then
    if Config.freeSight k a then some (Config.freeByte k a) else s.dest.read a
  else s.dest.read a

/-- The busy instances that have byte `a` in their footprint, each with its number. -/
def System.busyAt (y : System) (a : Nat) : List (State × Nat) :=
  y.units.zipIdx.filter fun u => decide (u.1.seq ≠ .idle) && u.1.inFootprint a

/-- What the caller's look number `k` sees of byte `a` of the shared buffer (R89, R306): the prior or the decoded value
while the one instance that writes it is busy, the buffer's byte while none is. Where two decodes in flight write it, duty
P3 is broken and the look shows nothing (R95, log 11). -/
def System.visible (y : System) (k a : Nat) : Option Byte :=
  match y.busyAt a with
  | [] => y.dest.read a
  | [(u, j)] => (y.attach j u).decodeSight k a
  | _ :: _ :: _ => none

end Sys2Proof.Machine
end

