-- ==== Sys2Proof/Safety.lean ====
section
/-! DEFINITION. What counts as a safe state and a decode within the caller's duties, in the terms the statements use. -/

namespace Sys2Proof.Machine

/-- The duties that bear on a decode's writes: P2 and P3 (R283). -/
def State.dutiesMet (s : State) : Bool := s.bufferFits && s.footprintFree

/-- The duties of a request presented to s: P1, P2 and P3 (R283). -/
def State.meetsDuties (s : State) (r : Request) : Bool :=
  decide (r.blockBytes.length = Config.blockBytes) && (s.accept r []).dutiesMet

/-- Where the bit cursor stands when the sequencer of a mode-m decode is in a given state (R36, R105 to R107). -/
def cursorAt (m : Fin 8) : Seq → Nat
  | .idle => 0
  | .detectMode => 0
  | .readPartitionRotationSelector => m.val + 1
  | .readEndpointChannels => basePos m
  | .readPBits => pbitBase m
  | .dequantize => idx1Base m
  | .readIndices => idx1Base m
  | .interpolatePixels => Config.blockBits
  | .applyRotation => Config.blockBits
  | .writeOutput => Config.blockBits

/-- The header registers fit the mode's field widths (R145, R146, R147), and the partition selector has marked every
pixel by its tables (R160, R163). -/
def State.headerSound (s : State) : Bool :=
  decide (s.partition.toNat < 2 ^ s.desc.pb) && decide (s.rotation.toNat < 2 ^ s.desc.rb) &&
  decide (s.idxSel.toNat < 2 ^ s.desc.isb) &&
  pixelNumbers.all fun i =>
    s.subsetOf[i] == Rom.subsetAt s.desc.ns s.partition i && s.anchor[i] == Rom.isAnchor s.desc.ns s.partition i

/-- The state of a decode in progress agrees with its place in the sequence (R250): mode, descriptor (R143), cursor
(R36), header. A Reserved decode is only ever at `WriteOutput`, with the fill (R262). -/
def State.phaseSound (s : State) : Bool :=
  match s.seq with
  | .idle => true
  | .detectMode => s.bitPos == 0
  | q =>
    match s.mode with
    | .reserved => q == .writeOutput && pixelNumbers.all fun i => s.px[i] == opaqueBlack
    | .valid m =>
      s.desc == Rom.mode m && s.bitPos == cursorAt m q &&
        (q == .readPartitionRotationSelector || s.headerSound)

/-- The invariant: the memory is canonical and lies inside the buffer (R92), the cursor is in range (R36), and a decode
in progress is where its sequence puts it. -/
def State.Inv (s : State) : Bool :=
  s.dest.wf && s.dest.all (fun c => decide (c.1 < s.destLen)) && decide (s.bitPos ≤ Config.blockBits) && s.phaseSound

end Sys2Proof.Machine
end

