-- ==== Sys2Proof/Certificates/Slice0/Obligations.lean ====
section
/-! DEFINITION. The statements for the provers. Each docstring names the rule of spec/ it is about. -/

open Sys2Proof Sys2Proof.Machine

namespace Sys2Proof.Machine

/-! ## Terms the statements use -/

/-- What a decode leaves alone whatever its block: the request port, the latched request, the caller's side, and every
byte outside the clipped footprint at the offsets its writes are computed from (R85, R263). -/
def PortsKept (s t : State) : Prop :=
  t.requests = s.requests ∧ t.blk = s.blk ∧ t.blockX = s.blockX ∧ t.blockY = s.blockY ∧
  t.imageWidth = s.imageWidth ∧ t.imageHeight = s.imageHeight ∧ t.destLen = s.destLen ∧ t.inFlight = s.inFlight ∧
  t.resetIn = s.resetIn ∧
  ∀ a, (∀ i : Fin 16, s.inBounds i → a < s.pixelOffset i ∨ s.pixelOffset i + 4 ≤ a) → t.dest.read a = s.dest.read a

/-- What every mode-m decode leaves behind (R253 to R260): mode, descriptor, the cursor at 128, the unit Idle with
completion, and its pixels in `destRGBA`. -/
def LeftBy (m : Fin 8) (s t : State) : Prop :=
  t.mode = .valid m ∧ t.desc = Rom.mode m ∧ t.bitPos = 128 ∧ t.seq = .idle ∧ t.completion = true ∧
  (∀ i : Fin 16, t.subsetOf[i] = Rom.subsetAt (Rom.mode m).ns t.partition i) ∧
  (∀ i : Fin 16, t.anchor[i] = Rom.isAnchor (Rom.mode m).ns t.partition i) ∧
  t.dest = t.writePixels pixelNumbers s.dest

/-- An endpoint whose colour joins a p-bit, in a mode of `bits` colour bits with no alpha (R253, R254, R256). -/
def colourEndpointP {w : Nat} (bits : Nat) (c : Colour w) (p : BitVec 1) : Rgba :=
  ⟨dq (2 * c.r.toNat + p.toNat) (bits + 1), dq (2 * c.g.toNat + p.toNat) (bits + 1),
    dq (2 * c.b.toNat + p.toNat) (bits + 1), 255⟩

/-- An endpoint with alpha whose every channel joins the p-bit (R259, R260). -/
def alphaEndpointP {w : Nat} (bits : Nat) (c : Colour w) (a : BitVec w) (p : BitVec 1) : Rgba :=
  ⟨dq (2 * c.r.toNat + p.toNat) (bits + 1), dq (2 * c.g.toNat + p.toNat) (bits + 1),
    dq (2 * c.b.toNat + p.toNat) (bits + 1), dq (2 * a.toNat + p.toNat) (bits + 1)⟩

/-- The raw colour channels of an endpoint register are its fields, zero-extended (R180, R118). -/
def RawColour {w : Nat} (raw : Rgba) (c : Colour w) : Prop :=
  raw.r = c.r.setWidth 8 ∧ raw.g = c.g.setWidth 8 ∧ raw.b = c.b.setWidth 8

/-- The pixel of a one-index mode: both ends of its subset blended by one weight (R226). -/
def pixelOf (ep : Nat → Rgba) (sub : Fin 3) (w : Nat) : Rgba :=
  ⟨interp (ep (2 * sub.val)).r (ep (2 * sub.val + 1)).r w, interp (ep (2 * sub.val)).g (ep (2 * sub.val + 1)).g w,
    interp (ep (2 * sub.val)).b (ep (2 * sub.val + 1)).b w, interp (ep (2 * sub.val)).a (ep (2 * sub.val + 1)).a w⟩

/-- The pixel of a two-index mode: colour and alpha each with its own weight, then the rotation (R257, R258). -/
def dualPixelOf (rotation : BitVec 2) (lo hi : Rgba) (cw aw : Nat) : Rgba :=
  rotate rotation ⟨interp lo.r hi.r cw, interp lo.g hi.g cw, interp lo.b hi.b cw, interp lo.a hi.a aw⟩

end Sys2Proof.Machine

/-! ## Encoding -/

/-- R103 against R105 to R108: an instruction's block, laid out in field order, decodes at the field positions to that
instruction, for every well-formed instruction at every operand value. -/
def Obligations.DecodeUndoesEncode : Prop :=
  ∀ i : Instr, i.wellFormed = true → decodeBlock (encodeBlock i) = i

/-- R104, R265: every bit of every block belongs to a field of the instruction it decodes to, and what it decodes to is
well-formed. RESERVED carries the bits it does not read (log 20). -/
def Obligations.EncodeUndoesDecode : Prop :=
  ∀ blk : Block, (decodeBlock blk).wellFormed = true ∧ encodeBlock (decodeBlock blk) = blk

/-- R100, R265: decoding takes exactly 16 bytes and leaves the rest; fewer are refused by name (R284), no others. -/
def Obligations.DecodeTakesSixteenBytes : Prop :=
  (∀ (i : Instr) (rest : List Byte), i.wellFormed = true → decode (encode i ++ rest) = .ok (i, rest)) ∧
  (∀ bytes : List Byte, bytes.length < 16 ↔ decode bytes = .error .shortBlock)

/-- R101, whole: the mode is the position of the first set bit among the low eight, the prefix read as a field is 2^m, and
field reading starts after it. -/
def Obligations.ModeIsFirstSetBit : Prop :=
  ∀ (blk : Block) (m : Fin 8),
    (detect blk = .valid m ↔ blk.getLsbD m.val = true ∧ ∀ k, k < m.val → blk.getLsbD k = false) ∧
    (detect blk = .valid m → (field blk 0 (m.val + 1)).toNat = 2 ^ m.val) ∧
    (∀ s t : State, s.seq = .detectMode → s.blk = blk → detect blk = .valid m → s.tick = .next t →
      t.bitPos = m.val + 1)

/-- R142 and R143, whole: `DetectMode` always completes; what it writes, in both cases, and that no other working register
and no byte changes (the pixels apart in a Reserved block, which R262 fills); the descriptor is constant for the rest of
the decode. -/
def Obligations.DetectModeWritesModeAndDescriptor : Prop :=
  (∀ s : State, s.seq = .detectMode → ∃ t, s.tick = .next t) ∧
  ∀ s t : State, s.tick = .next t →
    (s.seq = .detectMode → (field s.blk 0 8).toNat = 0 → t.mode = .reserved ∧ t.bitPos = s.bitPos) ∧
    (s.seq = .detectMode → (field s.blk 0 8).toNat ≠ 0 →
      ∃ m : Fin 8, (s.blk.getLsbD m.val = true ∧ ∀ k, k < m.val → s.blk.getLsbD k = false) ∧
        t.mode = .valid m ∧ t.bitPos = m.val + 1 ∧ t.desc = Rom.mode m) ∧
    (s.seq = .detectMode → t.partition = s.partition ∧ t.rotation = s.rotation ∧ t.idxSel = s.idxSel ∧
      t.epRaw = s.epRaw ∧ t.pbit = s.pbit ∧ t.sp = s.sp ∧ t.ep = s.ep ∧ t.idx1 = s.idx1 ∧ t.idx2 = s.idx2 ∧
      t.subsetOf = s.subsetOf ∧ t.anchor = s.anchor ∧ t.dest = s.dest) ∧
    (s.seq = .detectMode → (field s.blk 0 8).toNat ≠ 0 → t.px = s.px) ∧
    (s.seq ≠ .idle → s.seq ≠ .detectMode → t.desc = s.desc)

/-- R120: the nine masks and matches of byte 0 decide the mode, and they partition its 256 values. -/
def Obligations.OpcodeMapDecidesTheMode : Prop :=
  (∀ (blk : Block) (m : Fin 8),
    detect blk = .valid m ↔ (blk.toNat % 256) % 2 ^ (m.val + 1) = 2 ^ m.val) ∧
  (∀ blk : Block, detect blk = .reserved ↔ blk.toNat % 256 = 0) ∧
  (∀ blk : Block, (decodeBlock blk).mode = detect blk)

/-- R82, R140: `readBits` is the sum of the stream bits by weight; a count of 0 reads 0; a read past bit 127 is the
model's fault (92 D16), and a count over 32 is outside its domain (log 17). -/
def Obligations.ReadBitsSumsStreamBits : Prop :=
  (∀ (blk : Block) (pos n : Nat), n ≤ 32 → pos + n ≤ 128 →
    readBits blk pos n = some ((List.range n).map fun k => (blk.getLsbD (pos + k)).toNat * 2 ^ k).sum) ∧
  (∀ (blk : Block) (pos n : Nat), 32 < n ∨ 128 < pos + n → readBits blk pos n = none)

/-- R81: bit k of a block is bit k mod 8 of byte k div 8, and the 16 bytes of a block make that block. -/
def Obligations.BlockBitsAreByteBits : Prop :=
  (∀ (bytes : List Byte) (k : Nat), bytes.length = 16 → k < 128 →
    (blockOfBytes bytes).getLsbD k = (bytes.getD (k / 8) 0).getLsbD (k % 8)) ∧
  (∀ blk : Block, (bytesOfBlock blk).length = 16 ∧ blockOfBytes (bytesOfBlock blk) = blk)

/-- R110, R114, R116, R117 and the examples of R257, R260: a few blocks written out from the layouts decode to the
instructions they stand for. -/
def Obligations.WrittenOutBlocksDecode : Prop :=
  decodeBlock 0x0000000000000000000000000000000F#128 =
    .mode0 7 #v[⟨0, 0, 0⟩, ⟨0, 0, 0⟩, ⟨0, 0, 0⟩, ⟨0, 0, 0⟩, ⟨0, 0, 0⟩, ⟨0, 0, 0⟩] #v[0, 0, 0, 0, 0, 0]
      (Vector.ofFn fun _ => 0) ∧
  decodeBlock 0xFAC68829CBBEDADADADFF021007FE0B0#128 =
    .mode4 1 1 #v[⟨0, 31, 16⟩, ⟨31, 0, 16⟩] #v[0, 63] #v[1, 3, 2, 1, 1, 3, 2, 1, 1, 3, 2, 1, 1, 3, 2, 1]
      #v[3, 7, 6, 5, 4, 3, 2, 1, 0, 1, 2, 3, 4, 5, 6, 7] ∧
  decodeBlock 0xFEDCBA98765432117F01FC07F01FC040#128 =
    .mode6 #v[⟨0, 0, 0⟩, ⟨127, 127, 127⟩] #v[0, 127] #v[0, 1] #v[0, 1, 2, 3, 4, 5, 6, 7, 8, 9, 10, 11, 12, 13, 14, 15] ∧
  decodeBlock 0x3939393A7EF07FE007C0007C1F07C280#128 =
    .mode7 2 #v[⟨31, 31, 31⟩, ⟨0, 0, 0⟩, ⟨31, 0, 0⟩, ⟨0, 0, 31⟩] #v[31, 0, 15, 31] #v[1, 0, 0, 1]
      #v[0, 3, 1, 2, 0, 3, 1, 2, 0, 3, 1, 2, 0, 3, 1, 0] ∧
  (∀ u : BitVec 120, decodeBlock (u ++ 0#8) = .reserved u)

/-! ## The step and the sequencer -/

/-- R251, R8: from Idle, with a request whose bytes decode to i, a step is exec of i on the accepted state: the request
latched, the rest still presented, the cursor at 0. That one step is a whole decode (log 1), that the oldest request is
taken (log 7) and that acceptance takes completion down (log 9) are the model's choices. -/
def Obligations.StepRunsTheDecodedInstruction : Prop :=
  ∀ (s : State) (r : Request) (rest : List Request) (i : Instr), s.seq = .idle → s.resetIn = false →
    s.requests = r :: rest → decode r.blockBytes = .ok (i, []) →
    step s = exec i (s.accept r rest) ∧
    (s.accept r rest).blk = blockOfBytes r.blockBytes ∧ (s.accept r rest).requests = rest ∧
    (s.accept r rest).blockX = r.blockX ∧ (s.accept r rest).blockY = r.blockY ∧
    (s.accept r rest).imageWidth = r.imageWidth ∧ (s.accept r rest).imageHeight = r.imageHeight ∧
    (s.accept r rest).bitPos = 0 ∧ (s.accept r rest).seq = .detectMode ∧ (s.accept r rest).completion = false

/-- R252, R310: the sequencer's states run in order, nine for a valid mode and two for Reserved after the step out of
Idle, compute what the one-step transaction computes, refusals included. -/
def Obligations.SequencerComputesTheTransaction : Prop :=
  ∀ (s : State) (r : Request) (rest : List Request), s.seq = .idle → s.resetIn = false → s.requests = r :: rest →
    r.blockBytes.length = 16 →
    s.tick = .next (s.accept r rest) ∧
    Host.Core.run Sys2Proof.core (if detect (blockOfBytes r.blockBytes) = .reserved then 2 else 9)
      (s.accept r rest) = step s

/-- R250: the transitions, with no branch back; `Idle` is the spec's decision D2, and its wait with nothing presented the
model's choice (log 7). -/
def Obligations.SequencerTransitions : Prop :=
  ∀ s t : State, s.tick = .next t →
    (s.seq = .idle → (s.requests = [] ∧ t.seq = .idle) ∨ (s.requests ≠ [] ∧ t.seq = .detectMode)) ∧
    (s.seq = .detectMode → (detect s.blk = .reserved ∧ t.seq = .writeOutput ∧ ∀ i : Fin 16, t.px[i] = ⟨0, 0, 0, 255⟩) ∨
      (detect s.blk ≠ .reserved ∧ t.seq = .readPartitionRotationSelector)) ∧
    (s.seq = .readPartitionRotationSelector → t.seq = .readEndpointChannels) ∧
    (s.seq = .readEndpointChannels → t.seq = .readPBits) ∧
    (s.seq = .readPBits → t.seq = .dequantize) ∧
    (s.seq = .dequantize → t.seq = .readIndices) ∧
    (s.seq = .readIndices → t.seq = .interpolatePixels) ∧
    (s.seq = .interpolatePixels → t.seq = .applyRotation) ∧
    (s.seq = .applyRotation → t.seq = .writeOutput) ∧
    (s.seq = .writeOutput → t.seq = .idle ∧ t.completion = true)

/-- R36: within a decode the cursor never moves backward and stays in 0..128; each state moves it by exactly the widths of
the fields it reads, and a state that reads none leaves it. -/
def Obligations.CursorAdvancesByFieldsRead : Prop :=
  ∀ s t : State, s.Inv = true → s.seq ≠ .idle → s.tick = .next t →
    s.bitPos ≤ t.bitPos ∧ t.bitPos ≤ 128 ∧
    (s.seq = .detectMode → (∀ m : Fin 8, detect s.blk = .valid m → t.bitPos = s.bitPos + (m.val + 1)) ∧
      (detect s.blk = .reserved → t.bitPos = s.bitPos)) ∧
    (s.seq = .readPartitionRotationSelector → t.bitPos = s.bitPos + s.desc.pb + s.desc.rb + s.desc.isb) ∧
    (s.seq = .readEndpointChannels → t.bitPos = s.bitPos + 2 * s.desc.ns.count * (3 * s.desc.cb + s.desc.ab)) ∧
    (s.seq = .readPBits → t.bitPos = s.bitPos + 2 * s.desc.ns.count * s.desc.epb.toNat +
      s.desc.ns.count * s.desc.spb.toNat) ∧
    (s.seq = .readIndices → t.bitPos = 128) ∧
    (s.seq = .dequantize ∨ s.seq = .interpolatePixels ∨ s.seq = .applyRotation ∨ s.seq = .writeOutput →
      t.bitPos = s.bitPos)

/-- R144, whole: the header registers are three reads one after the other, 0 where the width is 0, and the state writes
nothing else but the partition selector's registers (R250). -/
def Obligations.HeaderFieldsAreTakenInOrder : Prop :=
  (∀ s t : State, s.seq = .readPartitionRotationSelector → s.tick = .next t →
    (∃ p r x, readBits s.blk s.bitPos s.desc.pb = some p ∧ readBits s.blk (s.bitPos + s.desc.pb) s.desc.rb = some r ∧
      readBits s.blk (s.bitPos + s.desc.pb + s.desc.rb) s.desc.isb = some x ∧
      t.partition = BitVec.ofNat 6 p ∧ t.rotation = BitVec.ofNat 2 r ∧ t.idxSel = BitVec.ofNat 1 x ∧
      (s.desc.pb = 0 → t.partition = 0) ∧ (s.desc.rb = 0 → t.rotation = 0) ∧ (s.desc.isb = 0 → t.idxSel = 0)) ∧
    t.bitPos = s.bitPos + s.desc.pb + s.desc.rb + s.desc.isb ∧
    t.mode = s.mode ∧ t.desc = s.desc ∧ t.epRaw = s.epRaw ∧ t.pbit = s.pbit ∧ t.sp = s.sp ∧ t.ep = s.ep ∧
    t.idx1 = s.idx1 ∧ t.idx2 = s.idx2 ∧ t.px = s.px ∧ t.dest = s.dest) ∧
  (∀ m : Fin 8, (0 < (Rom.mode m).rb ↔ m = 4 ∨ m = 5) ∧ (0 < (Rom.mode m).isb ↔ m = 4) ∧
    ((Rom.mode m).pb = 0 ↔ m = 4 ∨ m = 5 ∨ m = 6) ∧ ((Rom.mode m).pb = 0 → (Rom.mode m).ns = .one)) ∧
  (∀ s : State, s.Inv = true → s.seq = .readPartitionRotationSelector →
    ∃ m t, s.mode = .valid m ∧ s.desc = Rom.mode m ∧ s.bitPos = m.val + 1 ∧ s.tick = .next t)

/-- R160, whole: each pixel's subset is 0 for one subset, its bit of the P2 row for two, its two bits of the packed P3 row
for three; the table goes by ns. -/
def Obligations.SubsetsComeFromTheRowOfNs : Prop :=
  (∀ s t : State, s.seq = .readPartitionRotationSelector → s.tick = .next t → ∀ i : Fin 16,
    (s.desc.ns = .one → t.subsetOf[i] = 0) ∧
    (s.desc.ns = .two → (t.subsetOf[i]).val = (Rom.p2Mask.getD t.partition.toNat 0 >>> i.val) % 2) ∧
    (s.desc.ns = .three → (t.subsetOf[i]).val = (Rom.p3Packed.getD t.partition.toNat 0 >>> (2 * i.val)) % 4)) ∧
  (∀ m : Fin 8, ((Rom.mode m).ns = .three ↔ m = 0 ∨ m = 2) ∧ ((Rom.mode m).ns = .two ↔ m = 1 ∨ m = 3 ∨ m = 7))

/-- R162, R163, R164: the marked pixels are pixel 0 and the table's anchors, ns of them, each in the subset it anchors. -/
def Obligations.AnchorsAreMarkedFromTheTables : Prop :=
  (∀ s t : State, s.seq = .readPartitionRotationSelector → s.tick = .next t →
    (∀ i : Fin 16, t.anchor[i] = true ↔ i = 0 ∨
      (s.desc.ns = .two ∧ i = Rom.anchor2 t.partition) ∨
      (s.desc.ns = .three ∧ (i = Rom.anchor3A t.partition ∨ i = Rom.anchor3B t.partition))) ∧
    (pixelNumbers.filter fun i => t.anchor[i]).length = s.desc.ns.count) ∧
  (∀ p : BitVec 6, Rom.p2 p 0 = 0 ∧ Rom.p3 p 0 = 0 ∧ Rom.p2 p (Rom.anchor2 p) = 1 ∧ Rom.p3 p (Rom.anchor3A p) = 1 ∧
    Rom.p3 p (Rom.anchor3B p) = 2)

/-- R200 and R202, whole: primary indices in pixel order, one bit less at each anchor, then in a two-index mode the
secondary ones, one bit less at pixel 0; each index is its field, zero-extended; no other working register and no byte
changes. -/
def Obligations.IndicesAreReadWithAnchorWidths : Prop :=
  (∀ m : Fin 8, ((Rom.mode m).ib2 = some .three ↔ m = 4) ∧ ((Rom.mode m).ib2 = some .two ↔ m = 5) ∧
    ((Rom.mode m).ib2.isSome = true → (Rom.mode m).ns = .one)) ∧
  (∀ s : State, s.Inv = true → s.seq = .readIndices → ∃ t, s.tick = .next t) ∧
  ∀ s t : State, s.Inv = true → s.seq = .readIndices → s.tick = .next t →
    (∀ i : Fin 16, (t.idx1[i]).toNat =
      (field s.blk (s.bitPos + idxOffset (fun j => s.anchor[j]) s.desc.ib.bits i.val)
        (if s.anchor[i] then s.desc.ib.bits - 1 else s.desc.ib.bits)).toNat) ∧
    s.anchor[(0 : Fin 16)] = true ∧
    (∀ b, s.desc.ib2 = some b → ∀ i : Fin 16, (t.idx2[i]).toNat =
      (field s.blk (s.bitPos + (16 * s.desc.ib.bits - 1) + idxOffset (fun j => decide (j = 0)) b.bits i.val)
        (if i = 0 then b.bits - 1 else b.bits)).toNat) ∧
    (s.desc.ib2 = none → t.idx2 = s.idx2) ∧ t.bitPos = 128 ∧
    t.mode = s.mode ∧ t.desc = s.desc ∧ t.partition = s.partition ∧ t.rotation = s.rotation ∧ t.idxSel = s.idxSel ∧
    t.epRaw = s.epRaw ∧ t.pbit = s.pbit ∧ t.sp = s.sp ∧ t.ep = s.ep ∧ t.subsetOf = s.subsetOf ∧ t.anchor = s.anchor ∧
    t.px = s.px ∧ t.dest = s.dest

/-- R204, R201: after the decode of any valid block every index is below 2^ib, an anchor's below 2^(ib-1); the same for
the secondary set with pixel 0. -/
def Obligations.IndicesStayInRange : Prop :=
  ∀ (blk : Block) (m : Fin 8) (s t : State), detect blk = .valid m → exec (decodeBlock blk) s = .next t →
    (∀ i : Fin 16, (t.idx1[i]).toNat < 2 ^ (Rom.mode m).ib.bits ∧
      (t.anchor[i] = true → (t.idx1[i]).toNat < 2 ^ ((Rom.mode m).ib.bits - 1))) ∧
    (∀ b, (Rom.mode m).ib2 = some b → (∀ i : Fin 16, (t.idx2[i]).toNat < 2 ^ b.bits) ∧
      (t.idx2[(0 : Fin 16)]).toNat < 2 ^ (b.bits - 1))

/-- R251, R308, R97, R33: a transition inside a decode leaves the request port and the latched request alone, before
`WriteOutput` the completion signal too, and what is presented meanwhile does not change what it does. -/
def Obligations.BusyUnitLeavesRequestsWaiting : Prop :=
  (∀ s t : State, s.seq ≠ .idle → s.tick = .next t →
    t.requests = s.requests ∧ t.blk = s.blk ∧ t.blockX = s.blockX ∧ t.blockY = s.blockY ∧
    t.imageWidth = s.imageWidth ∧ t.imageHeight = s.imageHeight ∧ t.destLen = s.destLen ∧ t.inFlight = s.inFlight ∧
    (s.seq ≠ .writeOutput → t.completion = s.completion)) ∧
  (∀ (s t : State) (q : List Request), s.seq ≠ .idle → s.tick = .next t →
    State.tick { s with requests := q } = .next { t with requests := q })

/-- R35, R250: Idle with nothing presented stays Idle and writes nothing (the model's choice, log 7). -/
def Obligations.IdleUnitWaits : Prop :=
  ∀ s : State, s.seq = .idle → s.resetIn = false → s.requests = [] →
    step s = .next { s with completion := false }

/-! ## The operand computations -/

/-- R182, R186, 90 C5: bit replication. For the widths the unit uses, v fills the top n bits and its own high bits fill
the rest. -/
def Obligations.DequantizerReplicatesHighBits : Prop :=
  ∀ (v : Nat) (n : Fin 9), 5 ≤ n.val → v < 2 ^ n.val →
    (dq v n.val).toNat = v * 2 ^ (8 - n.val) + v / 2 ^ (2 * n.val - 8)

/-- R185, R186: 0 goes to 0, the largest value to 255 (n in 4..8), and the dequantizer is strictly increasing. -/
def Obligations.DequantizerBoundsAndOrder : Prop :=
  (∀ n : Fin 9, dq 0 n.val = 0) ∧
  (∀ n : Fin 9, 4 ≤ n.val → dq (2 ^ n.val - 1) n.val = 255) ∧
  (∀ (v v' : Nat) (n : Fin 9), 5 ≤ n.val → v < v' → v' < 2 ^ n.val → (dq v n.val).toNat < (dq v' n.val).toNat)

/-- R183, whole: with a p-bit the value is (raw << 1) | p at width bits + 1; without, raw at width bits. -/
def Obligations.PBitJoinsBelowTheRawValue : Prop :=
  (∀ (raw : Byte) (bits : Nat) (p : BitVec 1), dqChan raw bits (some p) = dq (2 * raw.toNat + p.toNat) (bits + 1)) ∧
  (∀ (raw : Byte) (bits : Nat), dqChan raw bits none = dq raw.toNat bits)

/-- R220, whole: the blend is the rounded fixed-point sum, exactly, with no overflow; weight 64 is the second endpoint. -/
def Obligations.InterpolationIsTheRoundedSum : Prop :=
  (∀ (a b : Byte) (w : Nat), w ≤ 64 → (interp a b w).toNat = (a.toNat * (64 - w) + b.toNat * w + 32) / 64) ∧
  (∀ a b : Byte, interp a b 64 = b)

/-- R221: the ends, equal endpoints, symmetry, and the result between the endpoints. -/
def Obligations.InterpolationStaysBetweenEndpoints : Prop :=
  (∀ a b : Byte, interp a b 0 = a) ∧
  (∀ (a : Byte) (w : Nat), w ≤ 64 → interp a a w = a) ∧
  (∀ (a b : Byte) (w : Nat), w ≤ 64 → interp a b w = interp b a (64 - w)) ∧
  (∀ (a b : Byte) (w : Nat), w ≤ 64 →
    min a.toNat b.toNat ≤ (interp a b w).toNat ∧ (interp a b w).toNat ≤ max a.toNat b.toNat)

/-- R146, whole: the swap each rotation value selects; in a mode with rb = 0 the rotation is 0 and nothing is swapped; all
four values are legal in modes 4 and 5. -/
def Obligations.RotationSelectsTheSwap : Prop :=
  (∀ r g b a : Byte, rotate 0 ⟨r, g, b, a⟩ = ⟨r, g, b, a⟩ ∧ rotate 1 ⟨r, g, b, a⟩ = ⟨a, g, b, r⟩ ∧
    rotate 2 ⟨r, g, b, a⟩ = ⟨r, a, b, g⟩ ∧ rotate 3 ⟨r, g, b, a⟩ = ⟨r, g, a, b⟩) ∧
  (∀ (i : Instr) (m : Fin 8) (s t : State), i.mode = .valid m → (Rom.mode m).rb = 0 → exec i s = .next t →
    t.rotation = 0 ∧ ∀ k : Fin 16,
      t.px[k] = pixelOf (nth t.ep) t.subsetOf[k] (Rom.weight (Rom.mode m).ib (t.idx1[k]).toNat)) ∧
  (∀ s : State, s.seq = .applyRotation → ∃ t, s.tick = .next t ∧ ∀ k : Fin 16, t.px[k] = rotate s.rotation s.px[k]) ∧
  (∀ rot : BitVec 2, (∃ blk : Block, detect blk = .valid 4 ∧ field blk 5 2 = rot ∧ (decodeBlock blk).wellFormed = true) ∧
    (∃ blk : Block, detect blk = .valid 5 ∧ field blk 6 2 = rot ∧ (decodeBlock blk).wellFormed = true))

/-- R228: rotating twice is the identity, and a rotation keeps the multiset of channel values. -/
def Obligations.RotationIsItsOwnInverse : Prop :=
  ∀ (r : BitVec 2) (p : Rgba), rotate r (rotate r p) = p ∧
    [(rotate r p).r, (rotate r p).g, (rotate r p).b, (rotate r p).a].Perm [p.r, p.g, p.b, p.a]

/-! ## The nine instructions: result and completion -/

/-- MODE0 (R253): from every state within the duties it completes, every endpoint and pixel as the rule computes them.
Alpha 255 is the spec's decision D6 (log 14). -/
def Obligations.Mode0DecodesByItsRule : Prop :=
  ∀ (p : BitVec 4) (col : Vector (Colour 4) 6) (pb : Vector (BitVec 1) 6) (ix : Vector (BitVec 3) 16) (s : State),
    s.dutiesMet = true →
    ∃ t, exec (.mode0 p col pb ix) s = .next t ∧ LeftBy 0 s t ∧
      t.partition = p.setWidth 6 ∧ t.rotation = 0 ∧ t.idxSel = 0 ∧ t.pbit = pb ∧
      (∀ e : Fin 6, t.ep[e] = colourEndpointP 4 col[e] pb[e]) ∧
      (∀ e : Fin 6, RawColour t.epRaw[e] col[e]) ∧
      (∀ i : Fin 16, (t.idx1[i]).toNat = (ix[i]).toNat ∧
        t.px[i] = pixelOf (fun e => colourEndpointP 4 (nth col e) (nth pb e)) (Rom.p3 (p.setWidth 6) i)
          (Rom.w3.getD (ix[i]).toNat 0))

/-- MODE1 (R254): the p-bit of endpoint e is that of subset e >> 1. -/
def Obligations.Mode1DecodesByItsRule : Prop :=
  ∀ (p : BitVec 6) (col : Vector (Colour 6) 4) (sp : Vector (BitVec 1) 2) (ix : Vector (BitVec 3) 16) (s : State),
    s.dutiesMet = true →
    ∃ t, exec (.mode1 p col sp ix) s = .next t ∧ LeftBy 1 s t ∧
      t.partition = p ∧ t.rotation = 0 ∧ t.idxSel = 0 ∧
      (∀ e : Fin 4, t.pbit[e.val] = nth sp (e.val / 2) ∧ t.ep[e.val] = colourEndpointP 6 col[e] (nth sp (e.val / 2))) ∧
      (∀ u : Fin 2, t.sp[u.val] = sp[u]) ∧
      (∀ e : Fin 4, RawColour t.epRaw[e.val] col[e]) ∧
      (∀ i : Fin 16, (t.idx1[i]).toNat = (ix[i]).toNat ∧
        t.px[i] = pixelOf (fun e => colourEndpointP 6 (nth col e) (nth sp (e / 2))) (Rom.p2 p i)
          (Rom.w3.getD (ix[i]).toNat 0))

/-- MODE2 (R255): no p-bit. -/
def Obligations.Mode2DecodesByItsRule : Prop :=
  ∀ (p : BitVec 6) (col : Vector (Colour 5) 6) (ix : Vector (BitVec 2) 16) (s : State), s.dutiesMet = true →
    ∃ t, exec (.mode2 p col ix) s = .next t ∧ LeftBy 2 s t ∧
      t.partition = p ∧ t.rotation = 0 ∧ t.idxSel = 0 ∧
      (∀ e : Fin 6, t.ep[e] = ⟨dq (col[e]).r.toNat 5, dq (col[e]).g.toNat 5, dq (col[e]).b.toNat 5, 255⟩) ∧
      (∀ e : Fin 6, RawColour t.epRaw[e] col[e]) ∧
      (∀ i : Fin 16, (t.idx1[i]).toNat = (ix[i]).toNat ∧
        t.px[i] = pixelOf (fun e => ⟨dq (nth col e).r.toNat 5, dq (nth col e).g.toNat 5, dq (nth col e).b.toNat 5, 255⟩)
          (Rom.p3 p i) (Rom.w2.getD (ix[i]).toNat 0))

/-- MODE3 (R256): 8 combined bits, so an endpoint channel is (raw << 1) | p exactly. -/
def Obligations.Mode3DecodesByItsRule : Prop :=
  ∀ (p : BitVec 6) (col : Vector (Colour 7) 4) (pb : Vector (BitVec 1) 4) (ix : Vector (BitVec 2) 16) (s : State),
    s.dutiesMet = true →
    ∃ t, exec (.mode3 p col pb ix) s = .next t ∧ LeftBy 3 s t ∧
      t.partition = p ∧ t.rotation = 0 ∧ t.idxSel = 0 ∧
      (∀ e : Fin 4, t.pbit[e.val] = pb[e] ∧
        t.ep[e.val] = ⟨(col[e]).r ++ pb[e], (col[e]).g ++ pb[e], (col[e]).b ++ pb[e], 255⟩) ∧
      (∀ e : Fin 4, RawColour t.epRaw[e.val] col[e]) ∧
      (∀ i : Fin 16, (t.idx1[i]).toNat = (ix[i]).toNat ∧
        t.px[i] = pixelOf (fun e => colourEndpointP 7 (nth col e) (nth pb e)) (Rom.p2 p i)
          (Rom.w2.getD (ix[i]).toNat 0))

/-- MODE4 (R257): with selector 0 the 2-bit set drives colour and the 3-bit set alpha, with selector 1 the other way
about; the rotation is last. -/
def Obligations.Mode4DecodesByItsRule : Prop :=
  ∀ (r : BitVec 2) (sel : BitVec 1) (col : Vector (Colour 5) 2) (a : Vector (BitVec 6) 2) (ix : Vector (BitVec 2) 16)
    (jx : Vector (BitVec 3) 16) (s : State), s.dutiesMet = true →
    ∃ t, exec (.mode4 r sel col a ix jx) s = .next t ∧ LeftBy 4 s t ∧
      t.partition = 0 ∧ t.rotation = r ∧ t.idxSel = sel ∧
      (∀ e : Fin 2, t.ep[e.val] =
        ⟨dq (col[e]).r.toNat 5, dq (col[e]).g.toNat 5, dq (col[e]).b.toNat 5, dq (a[e]).toNat 6⟩) ∧
      (∀ e : Fin 2, RawColour t.epRaw[e.val] col[e] ∧ (t.epRaw[e.val]).a = (a[e]).setWidth 8) ∧
      (∀ i : Fin 16, (t.idx1[i]).toNat = (ix[i]).toNat ∧ t.idx2[i] = jx[i] ∧
        (sel = 0 → t.px[i] = dualPixelOf r t.ep[0] t.ep[1] (Rom.w2.getD (ix[i]).toNat 0) (Rom.w3.getD (jx[i]).toNat 0)) ∧
        (sel = 1 → t.px[i] = dualPixelOf r t.ep[0] t.ep[1] (Rom.w3.getD (jx[i]).toNat 0) (Rom.w2.getD (ix[i]).toNat 0)))

/-- MODE5 (R258): the primary set always drives colour; alpha is stored in 8 bits. -/
def Obligations.Mode5DecodesByItsRule : Prop :=
  ∀ (r : BitVec 2) (col : Vector (Colour 7) 2) (a : Vector (BitVec 8) 2) (ix : Vector (BitVec 2) 16)
    (jx : Vector (BitVec 2) 16) (s : State), s.dutiesMet = true →
    ∃ t, exec (.mode5 r col a ix jx) s = .next t ∧ LeftBy 5 s t ∧
      t.partition = 0 ∧ t.rotation = r ∧ t.idxSel = 0 ∧
      (∀ e : Fin 2, t.ep[e.val] = ⟨dq (col[e]).r.toNat 7, dq (col[e]).g.toNat 7, dq (col[e]).b.toNat 7, a[e]⟩) ∧
      (∀ e : Fin 2, RawColour t.epRaw[e.val] col[e] ∧ (t.epRaw[e.val]).a = (a[e]).setWidth 8) ∧
      (∀ i : Fin 16, (t.idx1[i]).toNat = (ix[i]).toNat ∧ (t.idx2[i]).toNat = (jx[i]).toNat ∧
        t.px[i] = dualPixelOf r t.ep[0] t.ep[1] (Rom.w2.getD (ix[i]).toNat 0) (Rom.w2.getD (jx[i]).toNat 0))

/-- MODE6 (R259): one p-bit serves all four channels of an endpoint. -/
def Obligations.Mode6DecodesByItsRule : Prop :=
  ∀ (col : Vector (Colour 7) 2) (a : Vector (BitVec 7) 2) (pb : Vector (BitVec 1) 2) (ix : Vector (BitVec 4) 16)
    (s : State), s.dutiesMet = true →
    ∃ t, exec (.mode6 col a pb ix) s = .next t ∧ LeftBy 6 s t ∧
      t.partition = 0 ∧ t.rotation = 0 ∧ t.idxSel = 0 ∧
      (∀ e : Fin 2, t.pbit[e.val] = pb[e] ∧
        t.ep[e.val] = ⟨(col[e]).r ++ pb[e], (col[e]).g ++ pb[e], (col[e]).b ++ pb[e], a[e] ++ pb[e]⟩) ∧
      (∀ e : Fin 2, RawColour t.epRaw[e.val] col[e] ∧ (t.epRaw[e.val]).a = (a[e]).setWidth 8) ∧
      (∀ i : Fin 16, t.idx1[i] = ix[i] ∧
        t.px[i] = pixelOf (fun e => alphaEndpointP 7 (nth col e) (nth a e) (nth pb e)) 0 (Rom.w4.getD (ix[i]).toNat 0))

/-- MODE7 (R260): two subsets, alpha with the endpoint's p-bit. -/
def Obligations.Mode7DecodesByItsRule : Prop :=
  ∀ (p : BitVec 6) (col : Vector (Colour 5) 4) (a : Vector (BitVec 5) 4) (pb : Vector (BitVec 1) 4)
    (ix : Vector (BitVec 2) 16) (s : State), s.dutiesMet = true →
    ∃ t, exec (.mode7 p col a pb ix) s = .next t ∧ LeftBy 7 s t ∧
      t.partition = p ∧ t.rotation = 0 ∧ t.idxSel = 0 ∧
      (∀ e : Fin 4, t.pbit[e.val] = pb[e] ∧ t.ep[e.val] = alphaEndpointP 5 col[e] a[e] pb[e]) ∧
      (∀ e : Fin 4, RawColour t.epRaw[e.val] col[e] ∧ (t.epRaw[e.val]).a = (a[e]).setWidth 8) ∧
      (∀ i : Fin 16, (t.idx1[i]).toNat = (ix[i]).toNat ∧
        t.px[i] = pixelOf (fun e => alphaEndpointP 5 (nth col e) (nth a e) (nth pb e)) (Rom.p2 p i)
          (Rom.w2.getD (ix[i]).toNat 0))

/-- RESERVED (R261, R262): it completes with 16 pixels of opaque black, clipped, whatever its other bits; `desc` is a free
value (R38, log 5) of which nothing is said. -/
def Obligations.ReservedDecodesToOpaqueBlack : Prop :=
  ∀ (u : BitVec 120) (s : State), s.dutiesMet = true →
    ∃ t, exec (.reserved u) s = .next t ∧ t.mode = .reserved ∧ t.bitPos = 0 ∧ t.seq = .idle ∧ t.completion = true ∧
      (∀ i : Fin 16, t.px[i] = ⟨0, 0, 0, 255⟩) ∧ t.dest = t.writePixels pixelNumbers s.dest ∧
      ∀ i : Fin 16, s.inBounds i →
        t.dest.read (s.pixelOffset i) = some 0 ∧ t.dest.read (s.pixelOffset i + 1) = some 0 ∧
        t.dest.read (s.pixelOffset i + 2) = some 0 ∧ t.dest.read (s.pixelOffset i + 3) = some 255

/-! ## Frames -/

/-- Frame of MODE0 to MODE3 (R253 to R256): the ports, the secondary indices, every raw alpha, the endpoints past the
mode's own, and the p-bit registers the mode does not write. That an unwritten register keeps its value is the model's
choice (log 4). -/
def Obligations.ColourModesFrame : Prop :=
  (∀ p c pb ix (s t : State), exec (.mode0 p c pb ix) s = .next t →
    PortsKept s t ∧ t.freeCount = s.freeCount ∧ t.idx2 = s.idx2 ∧ t.sp = s.sp ∧
    ∀ e : Fin 6, (t.epRaw[e]).a = (s.epRaw[e]).a) ∧
  (∀ p c sp ix (s t : State), exec (.mode1 p c sp ix) s = .next t →
    PortsKept s t ∧ t.freeCount = s.freeCount ∧ t.idx2 = s.idx2 ∧ t.sp[2] = s.sp[2] ∧
    (∀ e : Fin 6, (t.epRaw[e]).a = (s.epRaw[e]).a) ∧
    ∀ e : Fin 6, 4 ≤ e.val → t.epRaw[e] = s.epRaw[e] ∧ t.ep[e] = s.ep[e] ∧ t.pbit[e] = s.pbit[e]) ∧
  (∀ p c ix (s t : State), exec (.mode2 p c ix) s = .next t →
    PortsKept s t ∧ t.freeCount = s.freeCount ∧ t.idx2 = s.idx2 ∧ t.sp = s.sp ∧ t.pbit = s.pbit ∧
    ∀ e : Fin 6, (t.epRaw[e]).a = (s.epRaw[e]).a) ∧
  (∀ p c pb ix (s t : State), exec (.mode3 p c pb ix) s = .next t →
    PortsKept s t ∧ t.freeCount = s.freeCount ∧ t.idx2 = s.idx2 ∧ t.sp = s.sp ∧
    (∀ e : Fin 6, (t.epRaw[e]).a = (s.epRaw[e]).a) ∧
    ∀ e : Fin 6, 4 ≤ e.val → t.epRaw[e] = s.epRaw[e] ∧ t.ep[e] = s.ep[e] ∧ t.pbit[e] = s.pbit[e])

/-- Frame of MODE4 to MODE7 (R257 to R260), as above (log 4). -/
def Obligations.AlphaModesFrame : Prop :=
  (∀ r sel c a ix jx (s t : State), exec (.mode4 r sel c a ix jx) s = .next t →
    PortsKept s t ∧ t.freeCount = s.freeCount ∧ t.sp = s.sp ∧ t.pbit = s.pbit ∧
    ∀ e : Fin 6, 2 ≤ e.val → t.epRaw[e] = s.epRaw[e] ∧ t.ep[e] = s.ep[e]) ∧
  (∀ r c a ix jx (s t : State), exec (.mode5 r c a ix jx) s = .next t →
    PortsKept s t ∧ t.freeCount = s.freeCount ∧ t.sp = s.sp ∧ t.pbit = s.pbit ∧
    ∀ e : Fin 6, 2 ≤ e.val → t.epRaw[e] = s.epRaw[e] ∧ t.ep[e] = s.ep[e]) ∧
  (∀ c a pb ix (s t : State), exec (.mode6 c a pb ix) s = .next t →
    PortsKept s t ∧ t.freeCount = s.freeCount ∧ t.sp = s.sp ∧ t.idx2 = s.idx2 ∧
    ∀ e : Fin 6, 2 ≤ e.val → t.epRaw[e] = s.epRaw[e] ∧ t.ep[e] = s.ep[e] ∧ t.pbit[e] = s.pbit[e]) ∧
  (∀ p c a pb ix (s t : State), exec (.mode7 p c a pb ix) s = .next t →
    PortsKept s t ∧ t.freeCount = s.freeCount ∧ t.sp = s.sp ∧ t.idx2 = s.idx2 ∧
    ∀ e : Fin 6, 4 ≤ e.val → t.epRaw[e] = s.epRaw[e] ∧ t.ep[e] = s.ep[e] ∧ t.pbit[e] = s.pbit[e])

/-- Frame of RESERVED (R261): it writes mode, cursor, pixels and its footprint; its undefined `desc` (R38) and the count of
free values apart, every other register keeps its value. -/
def Obligations.ReservedFrame : Prop :=
  ∀ (u : BitVec 120) (s t : State), exec (.reserved u) s = .next t →
    PortsKept s t ∧ t.partition = s.partition ∧ t.rotation = s.rotation ∧ t.idxSel = s.idxSel ∧ t.epRaw = s.epRaw ∧
    t.pbit = s.pbit ∧ t.sp = s.sp ∧ t.ep = s.ep ∧ t.idx1 = s.idx1 ∧ t.idx2 = s.idx2 ∧ t.subsetOf = s.subsetOf ∧
    t.anchor = s.anchor

/-! ## The output -/

/-- R86, whole: for each pixel within the image, byte k of `R | G<<8 | B<<16 | A<<24` stands at its offset + k after the
decode; a pixel outside is not written, and no error arises: with the duties met the decode completes. -/
def Obligations.PixelWordsLandAtTheirOffsets : Prop :=
  (∀ (i : Instr) (s : State), s.dutiesMet = true → ∃ t, exec i s = .next t) ∧
  (∀ (i : Instr) (s t : State), exec i s = .next t → ∀ k : Fin 16,
    (s.blockX * 4 + k.val % 4 < s.imageWidth → s.blockY * 4 + k.val / 4 < s.imageHeight →
      ∀ j, j < 4 →
        t.dest.read (((s.blockY * 4 + k.val / 4) * s.imageWidth + (s.blockX * 4 + k.val % 4)) * 4 + j) =
          some (BitVec.ofNat 8 (((t.px[k]).r.toNat + (t.px[k]).g.toNat * 2 ^ 8 + (t.px[k]).b.toNat * 2 ^ 16 +
            (t.px[k]).a.toNat * 2 ^ 24) / 2 ^ (8 * j)))) ∧
    (¬ (s.blockX * 4 + k.val % 4 < s.imageWidth ∧ s.blockY * 4 + k.val / 4 < s.imageHeight) →
      ∀ m : Memory, s.writePixel m k = m))

/-- R264, R92: every byte a decode changes lies in its clipped footprint, which lies inside the W·H·4 bytes of the image;
a block wholly outside the image changes nothing. -/
def Obligations.OnlyTheClippedFootprintIsWritten : Prop :=
  ∀ (i : Instr) (s t : State), exec i s = .next t →
    (∀ a, t.dest.read a ≠ s.dest.read a → s.inFootprint a = true) ∧
    (∀ a, s.inFootprint a = true → a < s.imageWidth * s.imageHeight * 4) ∧
    (s.imageWidth ≤ s.blockX * 4 ∨ s.imageHeight ≤ s.blockY * 4 ∨ s.imageWidth = 0 ∨ s.imageHeight = 0 →
      t.dest = s.dest)

/-- R93: the order of a decode's pixel writes cannot be observed: any order of all 16 gives the same memory. -/
def Obligations.WriteOrderCannotBeObserved : Prop :=
  ∀ (s : State) (order : List (Fin 16)) (m : Memory), m.wf = true → order.Perm pixelNumbers →
    s.writePixels order m = s.writePixels pixelNumbers m

/-- R94: two requests for distinct blocks of one image, in either order, both complete and leave the same buffer. -/
def Obligations.DecodesOfDistinctBlocksCommute : Prop :=
  ∀ (s : State) (q r : Request), s.seq = .idle → s.resetIn = false → s.inFlight = [] → s.dest.wf = true →
    q.blockBytes.length = 16 → r.blockBytes.length = 16 →
    q.imageWidth = r.imageWidth → q.imageHeight = r.imageHeight → (q.blockX, q.blockY) ≠ (r.blockX, r.blockY) →
    r.imageWidth * r.imageHeight * 4 ≤ s.destLen →
    ∃ t u, Host.Core.run Sys2Proof.core 2 { s with requests := [q, r] } = .next t ∧
      Host.Core.run Sys2Proof.core 2 { s with requests := [r, q] } = .next u ∧ t.dest = u.dest

/-- R94, R95, R294: two busy instances whose regions do not overlap: their moves commute, the shared buffer and the
registers included. A move is a transition, or the instance's own reset where that is asked for (log 21). -/
def Obligations.DisjointInstancesCommute : Prop :=
  ∀ (y a b : System) (j k : Nat) (u v : State), j ≠ k → y.units[j]? = some u → y.units[k]? = some v →
    u.seq ≠ .idle → v.seq ≠ .idle → u.region.overlaps v.region = false → v.region.overlaps u.region = false →
    y.dest.wf = true → y.tick j = .next a → a.tick k = .next b →
    ∃ c, y.tick k = .next c ∧ c.tick j = .next b

/-- R95: an instance at `WriteOutput` while another's decode in flight overlaps its footprint is refused. -/
def Obligations.OverlappingInstancesAreRefused : Prop :=
  ∀ (y : System) (j k : Nat) (u v : State), j ≠ k → y.units[j]? = some u → y.units[k]? = some v →
    u.seq = .writeOutput → v.seq ≠ .idle → v.region.overlaps u.region = true →
    u.imageWidth * u.imageHeight * 4 ≤ y.destLen →
    y.tick j = .refused .footprintInUse

/-- R265, R48, R90: the pixels are a function of the block alone, and the buffer after a decode a function of the request
and the buffer before: two Idle units that agree on those agree after the step, whatever their registers hold. -/
def Obligations.OutputIsAFunctionOfTheRequest : Prop :=
  (∀ (i : Instr) (s s' t t' : State), exec i s = .next t → exec i s' = .next t' → t.px = t'.px) ∧
  (∀ (s s' t : State) (r : Request) (rest rest' : List Request), s.seq = .idle → s'.seq = .idle →
    s.resetIn = false → s'.resetIn = false → s.requests = r :: rest → s'.requests = r :: rest' →
    s'.dest = s.dest → s'.destLen = s.destLen → s'.inFlight = s.inFlight → step s = .next t →
    ∃ t', step s' = .next t' ∧ t'.dest = t.dest ∧ t'.px = t.px ∧ t'.seq = t.seq ∧ t'.completion = t.completion)

/-- R90: repeating a decode writes the same bytes to the same offsets: the buffer and the pixels do not change again. -/
def Obligations.RepeatedDecodeChangesNothing : Prop :=
  ∀ (i : Instr) (s t : State), s.dest.wf = true → exec i s = .next t →
    ∃ u, exec i t = .next u ∧ u.dest = t.dest ∧ u.px = t.px

/-- R267, R226: an index of 0 shows the low endpoint of the pixel's subset, rotated; so a block whose indices are all 0
shows each subset in one colour. -/
def Obligations.IndexZeroShowsTheLowEndpoint : Prop :=
  ∀ (i : Instr) (m : Fin 8) (s t : State) (k : Fin 16), i.mode = .valid m → exec i s = .next t → t.idx1[k] = 0 →
    ((Rom.mode m).ib2.isSome = true → t.idx2[k] = 0) →
    t.px[k] = rotate t.rotation (t.ep[2 * (t.subsetOf[k]).val]'(by have := (t.subsetOf[k]).isLt; omega))

/-- R226, 92 D6: every pixel of MODE0 to MODE3 is opaque (the value 255 is the spec's decision, log 14). -/
def Obligations.ModesWithoutAlphaAreOpaque : Prop :=
  ∀ (i : Instr) (m : Fin 8) (s t : State) (k : Fin 16), i.mode = .valid m → (Rom.mode m).ab = 0 →
    exec i s = .next t → (t.px[k]).a = 255

/-! ## Refusals, reset, and what a caller sees -/

/-- R283 to R286: a step from Idle with a request presented is refused exactly when the request breaks P1, P2 or P3, and
names the first broken one (the order is the model's, log 10); otherwise it completes. -/
def Obligations.RefusedExactlyWhenADutyIsBroken : Prop :=
  ∀ (s : State) (r : Request) (rest : List Request), s.seq = .idle → s.resetIn = false → s.requests = r :: rest →
    (r.blockBytes.length ≠ 16 → step s = .refused .blockNotSixteenBytes) ∧
    (r.blockBytes.length = 16 → s.destLen < r.imageWidth * r.imageHeight * 4 → step s = .refused .bufferTooSmall) ∧
    (r.blockBytes.length = 16 → r.imageWidth * r.imageHeight * 4 ≤ s.destLen →
      s.inFlight.any (fun g => g.overlaps ⟨r.blockX, r.blockY, r.imageWidth, r.imageHeight⟩) = true →
      step s = .refused .footprintInUse) ∧
    (r.blockBytes.length = 16 → r.imageWidth * r.imageHeight * 4 ≤ s.destLen →
      s.inFlight.any (fun g => g.overlaps ⟨r.blockX, r.blockY, r.imageWidth, r.imageHeight⟩) = false →
      ∃ t, step s = .next t ∧ t.seq = .idle ∧ t.completion = true ∧ t.requests = rest)

/-- R294, P3: two regions overlap exactly when some byte is in a pixel of each. -/
def Obligations.OverlapMeansASharedByte : Prop :=
  ∀ g h : Region, g.overlaps h = true ↔ ∃ a p q, p ∈ g.offsets ∧ q ∈ h.offsets ∧ p ≤ a ∧ a < p + 4 ∧ q ≤ a ∧ a < q + 4

/-- R300, R60: after reset the unit is Idle and no decode has completed; a reset from Idle leaves the buffer, which the unit
does not initialise. That the reset state lists no byte (log 6) and has nothing presented (log 18), and what a reset keeps
of the caller's side (log 12), are the model's choices. The working registers are unspecified there; the model names zero
(log 3), and nothing is said of them here. -/
def Obligations.ResetLeavesTheUnitIdle : Prop :=
  (State.reset.seq = .idle ∧ State.reset.requests = [] ∧ State.reset.dest = [] ∧ State.reset.completion = false) ∧
  (∀ s t : State, s.resetIn = true → step s = .next t → t.seq = .idle ∧ t.completion = false ∧ t.resetIn = false ∧
    t.requests = s.requests ∧ t.destLen = s.destLen ∧ (s.seq = .idle → t.dest = s.dest))

/-- R301, 92 D24: reset during a decode completes nothing, and each byte of the footprint holds its prior or its decoded
value, every other byte its prior one. -/
def Obligations.ResetDuringADecodeMixesTheFootprint : Prop :=
  ∀ s d t : State, s.Inv = true → s.seq ≠ .idle → s.resetIn = true → s.runToIdle = .next d → step s = .next t →
    t.seq = .idle ∧ t.completion = false ∧
    ∀ a, (t.dest.read a = s.dest.read a ∨ (s.inFootprint a = true ∧ t.dest.read a = d.dest.read a)) ∧
      (s.inFootprint a = false → t.dest.read a = s.dest.read a)

/-- R301, R294, log 21: the reset of one instance among several (the model's choice that it is taken by that instance alone)
leaves it Idle with no completion, every other instance and the buffer's length as they were, and every byte outside its
own footprint; inside, a byte holds its prior value or that of the instance's decode run to its end. That its waiting
requests are kept and its reset input is cleared (log 12), and that completion is down after a reset from Idle too (log
9), are the model's choices as well. -/
def Obligations.ResetOfOneInstanceLeavesTheOthers : Prop :=
  ∀ (y z : System) (k : Nat) (u : State), y.units[k]? = some u → u.resetIn = true → y.tick k = .next z →
    (∃ v, z.units[k]? = some v ∧ v.seq = .idle ∧ v.completion = false ∧ v.resetIn = false ∧ v.requests = u.requests) ∧
    (∀ j, j ≠ k → z.units[j]? = y.units[j]?) ∧ z.destLen = y.destLen ∧
    (u.seq = .idle → z.dest = y.dest) ∧
    (∀ a, u.inFootprint a = false → z.dest.read a = y.dest.read a) ∧
    (∀ a d, u.seq ≠ .idle → (y.attach k u).runToIdle = .next d →
      z.dest.read a = y.dest.read a ∨ z.dest.read a = d.dest.read a)

/-- R306, R89, R93: before completion a look at a byte of a decode's footprint shows its prior or its decoded value, for
each byte apart, whichever instance decodes it; a byte that no decode in flight writes shows what the buffer holds, so after
completion what was written. Beside one unit another instance's decoded value is unknown and may be any byte (log 11);
of a whole system it is that instance's decode run to its end. -/
def Obligations.CallerSeesPriorOrDecodedBytes : Prop :=
  (∀ (s : State) (k a : Nat), (s.seq = .idle ∨ s.inFootprint a = false) → s.inFlight.any (fun g => g.covers a) = false →
    s.visible k a = s.dest.read a) ∧
  (∀ (s d : State) (k a : Nat), s.seq ≠ .idle → s.inFootprint a = true → s.runToIdle = .next d →
    s.visible k a = s.dest.read a ∨ s.visible k a = d.dest.read a) ∧
  (∀ (s : State) (k a : Nat), (s.seq = .idle ∨ s.inFootprint a = false) → s.inFlight.any (fun g => g.covers a) = true →
    s.visible k a = s.dest.read a ∨ ∃ b, s.visible k a = some b) ∧
  (∀ (y : System) (k a : Nat),
    (∀ (i : Nat) (v : State), y.units[i]? = some v → v.seq ≠ .idle → v.inFootprint a = false) →
    y.visible k a = y.dest.read a) ∧
  (∀ (y : System) (j k a : Nat) (u d : State), y.units[j]? = some u → u.seq ≠ .idle → u.inFootprint a = true →
    (∀ (i : Nat) (v : State), i ≠ j → y.units[i]? = some v → v.seq ≠ .idle → v.inFootprint a = false) →
    (y.attach j u).runToIdle = .next d →
    y.visible k a = y.dest.read a ∨ y.visible k a = d.dest.read a)

/-! ## Invariants and safety -/

/-- The invariant holds after reset. -/
def Obligations.ResetMeetsTheInvariant : Prop := State.reset.Inv = true

/-- Every step keeps the invariant: canonical memory inside the buffer (R92), the cursor in range (R36), and a decode in
progress where its sequence puts it (R250). -/
def Obligations.StepKeepsTheInvariant : Prop :=
  ∀ s t : State, s.Inv = true → step s = .next t → t.Inv = true

/-- R280, R140: no step from a state with the invariant faults, and no instruction faults in any state. -/
def Obligations.NothingFaults : Prop :=
  (∀ (s : State) (f : Fault), s.Inv = true → step s ≠ .fault f) ∧
  (∀ (i : Instr) (s : State) (f : Fault), exec i s ≠ .fault f)

/-- R311, R310: from any point of a decode within the duties, at most nine transitions reach Idle with completion. -/
def Obligations.EveryDecodeEndsInNineTransitions : Prop :=
  ∀ s : State, s.Inv = true → s.seq ≠ .idle → s.dutiesMet = true →
    ∃ t, s.runToIdle = .next t ∧ t.seq = .idle ∧ t.completion = true ∧ t.requests = s.requests

/-- R280, R281, R282: the outcome is Reserved exactly when byte 0 is zero, valid otherwise; no third outcome. -/
def Obligations.OutcomeIsValidOrReserved : Prop :=
  ∀ (blk : Block) (s t : State), exec (decodeBlock blk) s = .next t →
    (t.outcomeKind = .reservedMode ↔ blk.toNat % 256 = 0) ∧ (t.outcomeKind = .validMode ↔ blk.toNat % 256 ≠ 0)
end

