-- ==== Sys2Proof/Laws/BitReader.lean ====
section
/-! SUPPORT. The laws of the bit reader (R82, R140, R141) and of laying fields end to end (R103). -/

namespace Sys2Proof

/-- Bit k of a field is stream bit pos + k (R82). -/
theorem getLsbD_field (blk : Block) (pos n k : Nat) :
    (field blk pos n).getLsbD k = (decide (k < n) && blk.getLsbD (pos + k)) := by
  simp [field, BitVec.getLsbD_extractLsb']

theorem toNat_field (blk : Block) (pos n : Nat) : (field blk pos n).toNat = blk.toNat / 2 ^ pos % 2 ^ n := by
  simp [field, BitVec.extractLsb'_toNat, Nat.shiftRight_eq_div_pow]

theorem readBits_eq_some {blk : Block} {pos n : Nat} (hn : n ≤ 32) (h : pos + n ≤ 128) :
    readBits blk pos n = some (field blk pos n).toNat := by
  simp [readBits, Config.maxReadBits, Config.blockBits, hn, h]

/-- What a run of takes answers: it moves the cursor by exactly the widths it reads (R36, R141). -/
theorem takes_cursor {blk : Block} : ∀ {ws : List Nat} {pos : Nat} {vs : List Nat} {last : Nat},
    takes blk pos ws = some (vs, last) → last = pos + ws.sum ∧ vs.length = ws.length
  | [], pos, vs, last, h => by
    simp only [takes, Option.some.injEq, Prod.mk.injEq] at h
    obtain ⟨rfl, rfl⟩ := h; simp
  | n :: ws, pos, vs, last, h => by
    simp only [takes] at h
    split at h
    · cases h
    · split at h
      · cases h
      · rename_i vs' last' hrest
        simp only [Option.some.injEq, Prod.mk.injEq] at h
        obtain ⟨rfl, rfl⟩ := h
        obtain ⟨h1, h2⟩ := takes_cursor hrest
        simp [h1, h2]; omega

/-- A run of takes inside the block does not fault. -/
theorem takes_isSome (blk : Block) : ∀ (ws : List Nat) (pos : Nat), (∀ n ∈ ws, n ≤ 32) → pos + ws.sum ≤ 128 →
    ∃ vs, takes blk pos ws = some (vs, pos + ws.sum)
  | [], pos, _, _ => ⟨[], by simp [takes]⟩
  | n :: ws, pos, hw, hp => by
    simp only [List.sum_cons] at hp
    obtain ⟨vs, hvs⟩ := takes_isSome blk ws (pos + n) (fun k hk => hw k (List.mem_cons_of_mem _ hk)) (by omega)
    refine ⟨(field blk pos n).toNat :: vs, ?_⟩
    simp only [takes, readBits_eq_some (hw n (List.mem_cons_self ..)) (by omega : pos + n ≤ 128), hvs, List.sum_cons,
      Nat.add_assoc]

/-- The value taken k-th stands at the sum of the widths before it (R105 to R108). -/
theorem takes_getD {blk : Block} : ∀ {ws : List Nat} {pos : Nat} {vs : List Nat} {last : Nat},
    takes blk pos ws = some (vs, last) → ∀ k, k < ws.length →
    vs.getD k 0 = blk.toNat / 2 ^ (pos + (ws.take k).sum) % 2 ^ ws.getD k 0
  | [], _, _, _, _, k, hk => by simp at hk
  | n :: ws, pos, vs, last, h, k, hk => by
    simp only [takes] at h
    split at h
    · cases h
    · rename_i v hv
      split at h
      · cases h
      · rename_i vs' last' hrest
        simp only [Option.some.injEq, Prod.mk.injEq] at h
        obtain ⟨rfl, rfl⟩ := h
        cases k with
        | zero =>
          simp only [readBits] at hv
          split at hv
          · simp only [Option.some.injEq, toNat_field] at hv; simp [hv]
          · cases hv
        | succ k =>
          have := takes_getD hrest k (by simpa using hk)
          simpa [Nat.add_assoc] using this

/-! ## Fields laid end to end (R103) -/

/-- The total width of a run of fields. -/
def widthsSum (segs : List (Nat × Nat)) : Nat := (segs.map Prod.fst).sum

theorem pack_lt : ∀ segs : List (Nat × Nat), pack segs < 2 ^ widthsSum segs
  | [] => by simp [pack, widthsSum]
  | (w, v) :: segs => by
    have ih := pack_lt segs
    have hv : v % 2 ^ w < 2 ^ w := Nat.mod_lt _ (Nat.two_pow_pos w)
    simp only [pack, widthsSum, List.map_cons, List.sum_cons, Nat.pow_add] at ih ⊢
    calc v % 2 ^ w + 2 ^ w * pack segs < 2 ^ w * (pack segs + 1) := by rw [Nat.mul_succ]; omega
      _ ≤ _ := Nat.mul_le_mul_left _ ih

/-- Reading the k-th field back from where the fields before it end gives its value. -/
theorem pack_field : ∀ (segs : List (Nat × Nat)) (k : Nat), k < segs.length →
    pack segs / 2 ^ widthsSum (segs.take k) % 2 ^ (segs.getD k (0, 0)).1 =
      (segs.getD k (0, 0)).2 % 2 ^ (segs.getD k (0, 0)).1
  | [], k, hk => by simp at hk
  | (w, v) :: segs, 0, _ => by simp [pack, widthsSum, Nat.add_mul_mod_self_left]
  | (w, v) :: segs, k + 1, hk => by
    have ih := pack_field segs k (by simpa using hk)
    have hv : v % 2 ^ w < 2 ^ w := Nat.mod_lt _ (Nat.two_pow_pos w)
    have hdiv : (v % 2 ^ w + 2 ^ w * pack segs) / 2 ^ w = pack segs := by
      rw [Nat.add_mul_div_left _ _ (Nat.two_pow_pos w), Nat.div_eq_of_lt hv, Nat.zero_add]
    simp only [pack, List.take_succ_cons, widthsSum, List.map_cons, List.sum_cons, Nat.pow_add, List.getD_cons_succ,
      ← Nat.div_div_eq_div_mul, hdiv] at ih ⊢
    exact ih

end Sys2Proof
end

