-- ==== Sys2Proof/Laws/State.lean ====
section
/-! SUPPORT. What every update of the state makes of every field: one lemma a field an update, so that no later proof
unfolds a record update. -/

namespace Sys2Proof.Machine

variable (s : State)

/-! ## clearCompletion -/

@[simp] theorem State.clearCompletion_seq : (State.clearCompletion s).seq = s.seq := rfl
@[simp] theorem State.clearCompletion_requests : (State.clearCompletion s).requests = s.requests := rfl
@[simp] theorem State.clearCompletion_blk : (State.clearCompletion s).blk = s.blk := rfl
@[simp] theorem State.clearCompletion_blockX : (State.clearCompletion s).blockX = s.blockX := rfl
@[simp] theorem State.clearCompletion_blockY : (State.clearCompletion s).blockY = s.blockY := rfl
@[simp] theorem State.clearCompletion_imageWidth : (State.clearCompletion s).imageWidth = s.imageWidth := rfl
@[simp] theorem State.clearCompletion_imageHeight : (State.clearCompletion s).imageHeight = s.imageHeight := rfl
@[simp] theorem State.clearCompletion_bitPos : (State.clearCompletion s).bitPos = s.bitPos := rfl
@[simp] theorem State.clearCompletion_mode : (State.clearCompletion s).mode = s.mode := rfl
@[simp] theorem State.clearCompletion_desc : (State.clearCompletion s).desc = s.desc := rfl
@[simp] theorem State.clearCompletion_partition : (State.clearCompletion s).partition = s.partition := rfl
@[simp] theorem State.clearCompletion_rotation : (State.clearCompletion s).rotation = s.rotation := rfl
@[simp] theorem State.clearCompletion_idxSel : (State.clearCompletion s).idxSel = s.idxSel := rfl
@[simp] theorem State.clearCompletion_epRaw : (State.clearCompletion s).epRaw = s.epRaw := rfl
@[simp] theorem State.clearCompletion_pbit : (State.clearCompletion s).pbit = s.pbit := rfl
@[simp] theorem State.clearCompletion_sp : (State.clearCompletion s).sp = s.sp := rfl
@[simp] theorem State.clearCompletion_ep : (State.clearCompletion s).ep = s.ep := rfl
@[simp] theorem State.clearCompletion_idx1 : (State.clearCompletion s).idx1 = s.idx1 := rfl
@[simp] theorem State.clearCompletion_idx2 : (State.clearCompletion s).idx2 = s.idx2 := rfl
@[simp] theorem State.clearCompletion_subsetOf : (State.clearCompletion s).subsetOf = s.subsetOf := rfl
@[simp] theorem State.clearCompletion_anchor : (State.clearCompletion s).anchor = s.anchor := rfl
@[simp] theorem State.clearCompletion_px : (State.clearCompletion s).px = s.px := rfl
@[simp] theorem State.clearCompletion_dest : (State.clearCompletion s).dest = s.dest := rfl
@[simp] theorem State.clearCompletion_destLen : (State.clearCompletion s).destLen = s.destLen := rfl
@[simp] theorem State.clearCompletion_completion : (State.clearCompletion s).completion = false := rfl
@[simp] theorem State.clearCompletion_inFlight : (State.clearCompletion s).inFlight = s.inFlight := rfl
@[simp] theorem State.clearCompletion_resetIn : (State.clearCompletion s).resetIn = s.resetIn := rfl
@[simp] theorem State.clearCompletion_freeCount : (State.clearCompletion s).freeCount = s.freeCount := rfl

/-! ## complete -/

@[simp] theorem State.complete_seq : (State.complete s).seq = .idle := rfl
@[simp] theorem State.complete_requests : (State.complete s).requests = s.requests := rfl
@[simp] theorem State.complete_blk : (State.complete s).blk = s.blk := rfl
@[simp] theorem State.complete_blockX : (State.complete s).blockX = s.blockX := rfl
@[simp] theorem State.complete_blockY : (State.complete s).blockY = s.blockY := rfl
@[simp] theorem State.complete_imageWidth : (State.complete s).imageWidth = s.imageWidth := rfl
@[simp] theorem State.complete_imageHeight : (State.complete s).imageHeight = s.imageHeight := rfl
@[simp] theorem State.complete_bitPos : (State.complete s).bitPos = s.bitPos := rfl
@[simp] theorem State.complete_mode : (State.complete s).mode = s.mode := rfl
@[simp] theorem State.complete_desc : (State.complete s).desc = s.desc := rfl
@[simp] theorem State.complete_partition : (State.complete s).partition = s.partition := rfl
@[simp] theorem State.complete_rotation : (State.complete s).rotation = s.rotation := rfl
@[simp] theorem State.complete_idxSel : (State.complete s).idxSel = s.idxSel := rfl
@[simp] theorem State.complete_epRaw : (State.complete s).epRaw = s.epRaw := rfl
@[simp] theorem State.complete_pbit : (State.complete s).pbit = s.pbit := rfl
@[simp] theorem State.complete_sp : (State.complete s).sp = s.sp := rfl
@[simp] theorem State.complete_ep : (State.complete s).ep = s.ep := rfl
@[simp] theorem State.complete_idx1 : (State.complete s).idx1 = s.idx1 := rfl
@[simp] theorem State.complete_idx2 : (State.complete s).idx2 = s.idx2 := rfl
@[simp] theorem State.complete_subsetOf : (State.complete s).subsetOf = s.subsetOf := rfl
@[simp] theorem State.complete_anchor : (State.complete s).anchor = s.anchor := rfl
@[simp] theorem State.complete_px : (State.complete s).px = s.px := rfl
@[simp] theorem State.complete_dest : (State.complete s).dest = s.dest := rfl
@[simp] theorem State.complete_destLen : (State.complete s).destLen = s.destLen := rfl
@[simp] theorem State.complete_completion : (State.complete s).completion = true := rfl
@[simp] theorem State.complete_inFlight : (State.complete s).inFlight = s.inFlight := rfl
@[simp] theorem State.complete_resetIn : (State.complete s).resetIn = s.resetIn := rfl
@[simp] theorem State.complete_freeCount : (State.complete s).freeCount = s.freeCount := rfl

/-! ## enterMode -/

@[simp] theorem State.enterMode_seq (m : Fin 8) : (State.enterMode m s).seq = s.seq := rfl
@[simp] theorem State.enterMode_requests (m : Fin 8) : (State.enterMode m s).requests = s.requests := rfl
@[simp] theorem State.enterMode_blk (m : Fin 8) : (State.enterMode m s).blk = s.blk := rfl
@[simp] theorem State.enterMode_blockX (m : Fin 8) : (State.enterMode m s).blockX = s.blockX := rfl
@[simp] theorem State.enterMode_blockY (m : Fin 8) : (State.enterMode m s).blockY = s.blockY := rfl
@[simp] theorem State.enterMode_imageWidth (m : Fin 8) : (State.enterMode m s).imageWidth = s.imageWidth := rfl
@[simp] theorem State.enterMode_imageHeight (m : Fin 8) : (State.enterMode m s).imageHeight = s.imageHeight := rfl
@[simp] theorem State.enterMode_bitPos (m : Fin 8) : (State.enterMode m s).bitPos = s.bitPos := rfl
@[simp] theorem State.enterMode_mode (m : Fin 8) : (State.enterMode m s).mode = .valid m := rfl
@[simp] theorem State.enterMode_desc (m : Fin 8) : (State.enterMode m s).desc = Rom.mode m := rfl
@[simp] theorem State.enterMode_partition (m : Fin 8) : (State.enterMode m s).partition = s.partition := rfl
@[simp] theorem State.enterMode_rotation (m : Fin 8) : (State.enterMode m s).rotation = s.rotation := rfl
@[simp] theorem State.enterMode_idxSel (m : Fin 8) : (State.enterMode m s).idxSel = s.idxSel := rfl
@[simp] theorem State.enterMode_epRaw (m : Fin 8) : (State.enterMode m s).epRaw = s.epRaw := rfl
@[simp] theorem State.enterMode_pbit (m : Fin 8) : (State.enterMode m s).pbit = s.pbit := rfl
@[simp] theorem State.enterMode_sp (m : Fin 8) : (State.enterMode m s).sp = s.sp := rfl
@[simp] theorem State.enterMode_ep (m : Fin 8) : (State.enterMode m s).ep = s.ep := rfl
@[simp] theorem State.enterMode_idx1 (m : Fin 8) : (State.enterMode m s).idx1 = s.idx1 := rfl
@[simp] theorem State.enterMode_idx2 (m : Fin 8) : (State.enterMode m s).idx2 = s.idx2 := rfl
@[simp] theorem State.enterMode_subsetOf (m : Fin 8) : (State.enterMode m s).subsetOf = s.subsetOf := rfl
@[simp] theorem State.enterMode_anchor (m : Fin 8) : (State.enterMode m s).anchor = s.anchor := rfl
@[simp] theorem State.enterMode_px (m : Fin 8) : (State.enterMode m s).px = s.px := rfl
@[simp] theorem State.enterMode_dest (m : Fin 8) : (State.enterMode m s).dest = s.dest := rfl
@[simp] theorem State.enterMode_destLen (m : Fin 8) : (State.enterMode m s).destLen = s.destLen := rfl
@[simp] theorem State.enterMode_completion (m : Fin 8) : (State.enterMode m s).completion = s.completion := rfl
@[simp] theorem State.enterMode_inFlight (m : Fin 8) : (State.enterMode m s).inFlight = s.inFlight := rfl
@[simp] theorem State.enterMode_resetIn (m : Fin 8) : (State.enterMode m s).resetIn = s.resetIn := rfl
@[simp] theorem State.enterMode_freeCount (m : Fin 8) : (State.enterMode m s).freeCount = s.freeCount := rfl

/-! ## enterReserved -/

@[simp] theorem State.enterReserved_seq : (State.enterReserved s).seq = s.seq := rfl
@[simp] theorem State.enterReserved_requests : (State.enterReserved s).requests = s.requests := rfl
@[simp] theorem State.enterReserved_blk : (State.enterReserved s).blk = s.blk := rfl
@[simp] theorem State.enterReserved_blockX : (State.enterReserved s).blockX = s.blockX := rfl
@[simp] theorem State.enterReserved_blockY : (State.enterReserved s).blockY = s.blockY := rfl
@[simp] theorem State.enterReserved_imageWidth : (State.enterReserved s).imageWidth = s.imageWidth := rfl
@[simp] theorem State.enterReserved_imageHeight : (State.enterReserved s).imageHeight = s.imageHeight := rfl
@[simp] theorem State.enterReserved_bitPos : (State.enterReserved s).bitPos = s.bitPos := rfl
@[simp] theorem State.enterReserved_mode : (State.enterReserved s).mode = .reserved := rfl
@[simp] theorem State.enterReserved_desc : (State.enterReserved s).desc = Config.freeDesc s.freeCount := rfl
@[simp] theorem State.enterReserved_partition : (State.enterReserved s).partition = s.partition := rfl
@[simp] theorem State.enterReserved_rotation : (State.enterReserved s).rotation = s.rotation := rfl
@[simp] theorem State.enterReserved_idxSel : (State.enterReserved s).idxSel = s.idxSel := rfl
@[simp] theorem State.enterReserved_epRaw : (State.enterReserved s).epRaw = s.epRaw := rfl
@[simp] theorem State.enterReserved_pbit : (State.enterReserved s).pbit = s.pbit := rfl
@[simp] theorem State.enterReserved_sp : (State.enterReserved s).sp = s.sp := rfl
@[simp] theorem State.enterReserved_ep : (State.enterReserved s).ep = s.ep := rfl
@[simp] theorem State.enterReserved_idx1 : (State.enterReserved s).idx1 = s.idx1 := rfl
@[simp] theorem State.enterReserved_idx2 : (State.enterReserved s).idx2 = s.idx2 := rfl
@[simp] theorem State.enterReserved_subsetOf : (State.enterReserved s).subsetOf = s.subsetOf := rfl
@[simp] theorem State.enterReserved_anchor : (State.enterReserved s).anchor = s.anchor := rfl
@[simp] theorem State.enterReserved_px : (State.enterReserved s).px = tab16 fun _ => opaqueBlack := rfl
@[simp] theorem State.enterReserved_dest : (State.enterReserved s).dest = s.dest := rfl
@[simp] theorem State.enterReserved_destLen : (State.enterReserved s).destLen = s.destLen := rfl
@[simp] theorem State.enterReserved_completion : (State.enterReserved s).completion = s.completion := rfl
@[simp] theorem State.enterReserved_inFlight : (State.enterReserved s).inFlight = s.inFlight := rfl
@[simp] theorem State.enterReserved_resetIn : (State.enterReserved s).resetIn = s.resetIn := rfl
@[simp] theorem State.enterReserved_freeCount : (State.enterReserved s).freeCount = s.freeCount + 1 := rfl

/-! ## putCursor -/

@[simp] theorem State.putCursor_seq (pos : Nat) : (State.putCursor pos s).seq = s.seq := rfl
@[simp] theorem State.putCursor_requests (pos : Nat) : (State.putCursor pos s).requests = s.requests := rfl
@[simp] theorem State.putCursor_blk (pos : Nat) : (State.putCursor pos s).blk = s.blk := rfl
@[simp] theorem State.putCursor_blockX (pos : Nat) : (State.putCursor pos s).blockX = s.blockX := rfl
@[simp] theorem State.putCursor_blockY (pos : Nat) : (State.putCursor pos s).blockY = s.blockY := rfl
@[simp] theorem State.putCursor_imageWidth (pos : Nat) : (State.putCursor pos s).imageWidth = s.imageWidth := rfl
@[simp] theorem State.putCursor_imageHeight (pos : Nat) : (State.putCursor pos s).imageHeight = s.imageHeight := rfl
@[simp] theorem State.putCursor_bitPos (pos : Nat) : (State.putCursor pos s).bitPos = pos := rfl
@[simp] theorem State.putCursor_mode (pos : Nat) : (State.putCursor pos s).mode = s.mode := rfl
@[simp] theorem State.putCursor_desc (pos : Nat) : (State.putCursor pos s).desc = s.desc := rfl
@[simp] theorem State.putCursor_partition (pos : Nat) : (State.putCursor pos s).partition = s.partition := rfl
@[simp] theorem State.putCursor_rotation (pos : Nat) : (State.putCursor pos s).rotation = s.rotation := rfl
@[simp] theorem State.putCursor_idxSel (pos : Nat) : (State.putCursor pos s).idxSel = s.idxSel := rfl
@[simp] theorem State.putCursor_epRaw (pos : Nat) : (State.putCursor pos s).epRaw = s.epRaw := rfl
@[simp] theorem State.putCursor_pbit (pos : Nat) : (State.putCursor pos s).pbit = s.pbit := rfl
@[simp] theorem State.putCursor_sp (pos : Nat) : (State.putCursor pos s).sp = s.sp := rfl
@[simp] theorem State.putCursor_ep (pos : Nat) : (State.putCursor pos s).ep = s.ep := rfl
@[simp] theorem State.putCursor_idx1 (pos : Nat) : (State.putCursor pos s).idx1 = s.idx1 := rfl
@[simp] theorem State.putCursor_idx2 (pos : Nat) : (State.putCursor pos s).idx2 = s.idx2 := rfl
@[simp] theorem State.putCursor_subsetOf (pos : Nat) : (State.putCursor pos s).subsetOf = s.subsetOf := rfl
@[simp] theorem State.putCursor_anchor (pos : Nat) : (State.putCursor pos s).anchor = s.anchor := rfl
@[simp] theorem State.putCursor_px (pos : Nat) : (State.putCursor pos s).px = s.px := rfl
@[simp] theorem State.putCursor_dest (pos : Nat) : (State.putCursor pos s).dest = s.dest := rfl
@[simp] theorem State.putCursor_destLen (pos : Nat) : (State.putCursor pos s).destLen = s.destLen := rfl
@[simp] theorem State.putCursor_completion (pos : Nat) : (State.putCursor pos s).completion = s.completion := rfl
@[simp] theorem State.putCursor_inFlight (pos : Nat) : (State.putCursor pos s).inFlight = s.inFlight := rfl
@[simp] theorem State.putCursor_resetIn (pos : Nat) : (State.putCursor pos s).resetIn = s.resetIn := rfl
@[simp] theorem State.putCursor_freeCount (pos : Nat) : (State.putCursor pos s).freeCount = s.freeCount := rfl

/-! ## selectPartition -/

@[simp] theorem State.selectPartition_seq : (State.selectPartition s).seq = s.seq := rfl
@[simp] theorem State.selectPartition_requests : (State.selectPartition s).requests = s.requests := rfl
@[simp] theorem State.selectPartition_blk : (State.selectPartition s).blk = s.blk := rfl
@[simp] theorem State.selectPartition_blockX : (State.selectPartition s).blockX = s.blockX := rfl
@[simp] theorem State.selectPartition_blockY : (State.selectPartition s).blockY = s.blockY := rfl
@[simp] theorem State.selectPartition_imageWidth : (State.selectPartition s).imageWidth = s.imageWidth := rfl
@[simp] theorem State.selectPartition_imageHeight : (State.selectPartition s).imageHeight = s.imageHeight := rfl
@[simp] theorem State.selectPartition_bitPos : (State.selectPartition s).bitPos = s.bitPos := rfl
@[simp] theorem State.selectPartition_mode : (State.selectPartition s).mode = s.mode := rfl
@[simp] theorem State.selectPartition_desc : (State.selectPartition s).desc = s.desc := rfl
@[simp] theorem State.selectPartition_partition : (State.selectPartition s).partition = s.partition := rfl
@[simp] theorem State.selectPartition_rotation : (State.selectPartition s).rotation = s.rotation := rfl
@[simp] theorem State.selectPartition_idxSel : (State.selectPartition s).idxSel = s.idxSel := rfl
@[simp] theorem State.selectPartition_epRaw : (State.selectPartition s).epRaw = s.epRaw := rfl
@[simp] theorem State.selectPartition_pbit : (State.selectPartition s).pbit = s.pbit := rfl
@[simp] theorem State.selectPartition_sp : (State.selectPartition s).sp = s.sp := rfl
@[simp] theorem State.selectPartition_ep : (State.selectPartition s).ep = s.ep := rfl
@[simp] theorem State.selectPartition_idx1 : (State.selectPartition s).idx1 = s.idx1 := rfl
@[simp] theorem State.selectPartition_idx2 : (State.selectPartition s).idx2 = s.idx2 := rfl
@[simp] theorem State.selectPartition_subsetOf :
    (State.selectPartition s).subsetOf = tab16 fun i => Rom.subsetAt s.desc.ns s.partition i := rfl
@[simp] theorem State.selectPartition_anchor :
    (State.selectPartition s).anchor = tab16 fun i => Rom.isAnchor s.desc.ns s.partition i := rfl
@[simp] theorem State.selectPartition_px : (State.selectPartition s).px = s.px := rfl
@[simp] theorem State.selectPartition_dest : (State.selectPartition s).dest = s.dest := rfl
@[simp] theorem State.selectPartition_destLen : (State.selectPartition s).destLen = s.destLen := rfl
@[simp] theorem State.selectPartition_completion : (State.selectPartition s).completion = s.completion := rfl
@[simp] theorem State.selectPartition_inFlight : (State.selectPartition s).inFlight = s.inFlight := rfl
@[simp] theorem State.selectPartition_resetIn : (State.selectPartition s).resetIn = s.resetIn := rfl
@[simp] theorem State.selectPartition_freeCount : (State.selectPartition s).freeCount = s.freeCount := rfl

/-! ## putHeader -/

@[simp] theorem State.putHeader_seq (p : BitVec 6) (rot : BitVec 2) (sel : BitVec 1) :
    (State.putHeader p rot sel s).seq = s.seq := rfl
@[simp] theorem State.putHeader_requests (p : BitVec 6) (rot : BitVec 2) (sel : BitVec 1) :
    (State.putHeader p rot sel s).requests = s.requests := rfl
@[simp] theorem State.putHeader_blk (p : BitVec 6) (rot : BitVec 2) (sel : BitVec 1) :
    (State.putHeader p rot sel s).blk = s.blk := rfl
@[simp] theorem State.putHeader_blockX (p : BitVec 6) (rot : BitVec 2) (sel : BitVec 1) :
    (State.putHeader p rot sel s).blockX = s.blockX := rfl
@[simp] theorem State.putHeader_blockY (p : BitVec 6) (rot : BitVec 2) (sel : BitVec 1) :
    (State.putHeader p rot sel s).blockY = s.blockY := rfl
@[simp] theorem State.putHeader_imageWidth (p : BitVec 6) (rot : BitVec 2) (sel : BitVec 1) :
    (State.putHeader p rot sel s).imageWidth = s.imageWidth := rfl
@[simp] theorem State.putHeader_imageHeight (p : BitVec 6) (rot : BitVec 2) (sel : BitVec 1) :
    (State.putHeader p rot sel s).imageHeight = s.imageHeight := rfl
@[simp] theorem State.putHeader_bitPos (p : BitVec 6) (rot : BitVec 2) (sel : BitVec 1) :
    (State.putHeader p rot sel s).bitPos = s.bitPos := rfl
@[simp] theorem State.putHeader_mode (p : BitVec 6) (rot : BitVec 2) (sel : BitVec 1) :
    (State.putHeader p rot sel s).mode = s.mode := rfl
@[simp] theorem State.putHeader_desc (p : BitVec 6) (rot : BitVec 2) (sel : BitVec 1) :
    (State.putHeader p rot sel s).desc = s.desc := rfl
@[simp] theorem State.putHeader_partition (p : BitVec 6) (rot : BitVec 2) (sel : BitVec 1) :
    (State.putHeader p rot sel s).partition = p := rfl
@[simp] theorem State.putHeader_rotation (p : BitVec 6) (rot : BitVec 2) (sel : BitVec 1) :
    (State.putHeader p rot sel s).rotation = rot := rfl
@[simp] theorem State.putHeader_idxSel (p : BitVec 6) (rot : BitVec 2) (sel : BitVec 1) :
    (State.putHeader p rot sel s).idxSel = sel := rfl
@[simp] theorem State.putHeader_epRaw (p : BitVec 6) (rot : BitVec 2) (sel : BitVec 1) :
    (State.putHeader p rot sel s).epRaw = s.epRaw := rfl
@[simp] theorem State.putHeader_pbit (p : BitVec 6) (rot : BitVec 2) (sel : BitVec 1) :
    (State.putHeader p rot sel s).pbit = s.pbit := rfl
@[simp] theorem State.putHeader_sp (p : BitVec 6) (rot : BitVec 2) (sel : BitVec 1) :
    (State.putHeader p rot sel s).sp = s.sp := rfl
@[simp] theorem State.putHeader_ep (p : BitVec 6) (rot : BitVec 2) (sel : BitVec 1) :
    (State.putHeader p rot sel s).ep = s.ep := rfl
@[simp] theorem State.putHeader_idx1 (p : BitVec 6) (rot : BitVec 2) (sel : BitVec 1) :
    (State.putHeader p rot sel s).idx1 = s.idx1 := rfl
@[simp] theorem State.putHeader_idx2 (p : BitVec 6) (rot : BitVec 2) (sel : BitVec 1) :
    (State.putHeader p rot sel s).idx2 = s.idx2 := rfl
@[simp] theorem State.putHeader_subsetOf (p : BitVec 6) (rot : BitVec 2) (sel : BitVec 1) :
    (State.putHeader p rot sel s).subsetOf = tab16 fun i => Rom.subsetAt s.desc.ns p i := rfl
@[simp] theorem State.putHeader_anchor (p : BitVec 6) (rot : BitVec 2) (sel : BitVec 1) :
    (State.putHeader p rot sel s).anchor = tab16 fun i => Rom.isAnchor s.desc.ns p i := rfl
@[simp] theorem State.putHeader_px (p : BitVec 6) (rot : BitVec 2) (sel : BitVec 1) :
    (State.putHeader p rot sel s).px = s.px := rfl
@[simp] theorem State.putHeader_dest (p : BitVec 6) (rot : BitVec 2) (sel : BitVec 1) :
    (State.putHeader p rot sel s).dest = s.dest := rfl
@[simp] theorem State.putHeader_destLen (p : BitVec 6) (rot : BitVec 2) (sel : BitVec 1) :
    (State.putHeader p rot sel s).destLen = s.destLen := rfl
@[simp] theorem State.putHeader_completion (p : BitVec 6) (rot : BitVec 2) (sel : BitVec 1) :
    (State.putHeader p rot sel s).completion = s.completion := rfl
@[simp] theorem State.putHeader_inFlight (p : BitVec 6) (rot : BitVec 2) (sel : BitVec 1) :
    (State.putHeader p rot sel s).inFlight = s.inFlight := rfl
@[simp] theorem State.putHeader_resetIn (p : BitVec 6) (rot : BitVec 2) (sel : BitVec 1) :
    (State.putHeader p rot sel s).resetIn = s.resetIn := rfl
@[simp] theorem State.putHeader_freeCount (p : BitVec 6) (rot : BitVec 2) (sel : BitVec 1) :
    (State.putHeader p rot sel s).freeCount = s.freeCount := rfl

/-! ## putColour -/

@[simp] theorem State.putColour_seq (n : Nat) (c : Nat → Colour 8) : (State.putColour n c s).seq = s.seq := rfl
@[simp] theorem State.putColour_requests (n : Nat) (c : Nat → Colour 8) : (State.putColour n c s).requests = s.requests := rfl
@[simp] theorem State.putColour_blk (n : Nat) (c : Nat → Colour 8) : (State.putColour n c s).blk = s.blk := rfl
@[simp] theorem State.putColour_blockX (n : Nat) (c : Nat → Colour 8) : (State.putColour n c s).blockX = s.blockX := rfl
@[simp] theorem State.putColour_blockY (n : Nat) (c : Nat → Colour 8) : (State.putColour n c s).blockY = s.blockY := rfl
@[simp] theorem State.putColour_imageWidth (n : Nat) (c : Nat → Colour 8) : (State.putColour n c s).imageWidth = s.imageWidth := rfl
@[simp] theorem State.putColour_imageHeight (n : Nat) (c : Nat → Colour 8) : (State.putColour n c s).imageHeight = s.imageHeight := rfl
@[simp] theorem State.putColour_bitPos (n : Nat) (c : Nat → Colour 8) : (State.putColour n c s).bitPos = s.bitPos := rfl
@[simp] theorem State.putColour_mode (n : Nat) (c : Nat → Colour 8) : (State.putColour n c s).mode = s.mode := rfl
@[simp] theorem State.putColour_desc (n : Nat) (c : Nat → Colour 8) : (State.putColour n c s).desc = s.desc := rfl
@[simp] theorem State.putColour_partition (n : Nat) (c : Nat → Colour 8) : (State.putColour n c s).partition = s.partition := rfl
@[simp] theorem State.putColour_rotation (n : Nat) (c : Nat → Colour 8) : (State.putColour n c s).rotation = s.rotation := rfl
@[simp] theorem State.putColour_idxSel (n : Nat) (c : Nat → Colour 8) : (State.putColour n c s).idxSel = s.idxSel := rfl
@[simp] theorem State.putColour_epRaw (n : Nat) (c : Nat → Colour 8) :
    (State.putColour n c s).epRaw = tab6 fun e =>
      if e.val < n then { s.epRaw[e] with r := (c e.val).r, g := (c e.val).g, b := (c e.val).b } else s.epRaw[e] := rfl
@[simp] theorem State.putColour_pbit (n : Nat) (c : Nat → Colour 8) : (State.putColour n c s).pbit = s.pbit := rfl
@[simp] theorem State.putColour_sp (n : Nat) (c : Nat → Colour 8) : (State.putColour n c s).sp = s.sp := rfl
@[simp] theorem State.putColour_ep (n : Nat) (c : Nat → Colour 8) : (State.putColour n c s).ep = s.ep := rfl
@[simp] theorem State.putColour_idx1 (n : Nat) (c : Nat → Colour 8) : (State.putColour n c s).idx1 = s.idx1 := rfl
@[simp] theorem State.putColour_idx2 (n : Nat) (c : Nat → Colour 8) : (State.putColour n c s).idx2 = s.idx2 := rfl
@[simp] theorem State.putColour_subsetOf (n : Nat) (c : Nat → Colour 8) : (State.putColour n c s).subsetOf = s.subsetOf := rfl
@[simp] theorem State.putColour_anchor (n : Nat) (c : Nat → Colour 8) : (State.putColour n c s).anchor = s.anchor := rfl
@[simp] theorem State.putColour_px (n : Nat) (c : Nat → Colour 8) : (State.putColour n c s).px = s.px := rfl
@[simp] theorem State.putColour_dest (n : Nat) (c : Nat → Colour 8) : (State.putColour n c s).dest = s.dest := rfl
@[simp] theorem State.putColour_destLen (n : Nat) (c : Nat → Colour 8) : (State.putColour n c s).destLen = s.destLen := rfl
@[simp] theorem State.putColour_completion (n : Nat) (c : Nat → Colour 8) : (State.putColour n c s).completion = s.completion := rfl
@[simp] theorem State.putColour_inFlight (n : Nat) (c : Nat → Colour 8) : (State.putColour n c s).inFlight = s.inFlight := rfl
@[simp] theorem State.putColour_resetIn (n : Nat) (c : Nat → Colour 8) : (State.putColour n c s).resetIn = s.resetIn := rfl
@[simp] theorem State.putColour_freeCount (n : Nat) (c : Nat → Colour 8) : (State.putColour n c s).freeCount = s.freeCount := rfl

/-! ## putAlpha -/

@[simp] theorem State.putAlpha_seq (n : Nat) (a : Nat → Byte) : (State.putAlpha n a s).seq = s.seq := rfl
@[simp] theorem State.putAlpha_requests (n : Nat) (a : Nat → Byte) : (State.putAlpha n a s).requests = s.requests := rfl
@[simp] theorem State.putAlpha_blk (n : Nat) (a : Nat → Byte) : (State.putAlpha n a s).blk = s.blk := rfl
@[simp] theorem State.putAlpha_blockX (n : Nat) (a : Nat → Byte) : (State.putAlpha n a s).blockX = s.blockX := rfl
@[simp] theorem State.putAlpha_blockY (n : Nat) (a : Nat → Byte) : (State.putAlpha n a s).blockY = s.blockY := rfl
@[simp] theorem State.putAlpha_imageWidth (n : Nat) (a : Nat → Byte) : (State.putAlpha n a s).imageWidth = s.imageWidth := rfl
@[simp] theorem State.putAlpha_imageHeight (n : Nat) (a : Nat → Byte) : (State.putAlpha n a s).imageHeight = s.imageHeight := rfl
@[simp] theorem State.putAlpha_bitPos (n : Nat) (a : Nat → Byte) : (State.putAlpha n a s).bitPos = s.bitPos := rfl
@[simp] theorem State.putAlpha_mode (n : Nat) (a : Nat → Byte) : (State.putAlpha n a s).mode = s.mode := rfl
@[simp] theorem State.putAlpha_desc (n : Nat) (a : Nat → Byte) : (State.putAlpha n a s).desc = s.desc := rfl
@[simp] theorem State.putAlpha_partition (n : Nat) (a : Nat → Byte) : (State.putAlpha n a s).partition = s.partition := rfl
@[simp] theorem State.putAlpha_rotation (n : Nat) (a : Nat → Byte) : (State.putAlpha n a s).rotation = s.rotation := rfl
@[simp] theorem State.putAlpha_idxSel (n : Nat) (a : Nat → Byte) : (State.putAlpha n a s).idxSel = s.idxSel := rfl
@[simp] theorem State.putAlpha_epRaw (n : Nat) (a : Nat → Byte) :
    (State.putAlpha n a s).epRaw = tab6 fun e => if e.val < n then { s.epRaw[e] with a := a e.val } else s.epRaw[e] := rfl
@[simp] theorem State.putAlpha_pbit (n : Nat) (a : Nat → Byte) : (State.putAlpha n a s).pbit = s.pbit := rfl
@[simp] theorem State.putAlpha_sp (n : Nat) (a : Nat → Byte) : (State.putAlpha n a s).sp = s.sp := rfl
@[simp] theorem State.putAlpha_ep (n : Nat) (a : Nat → Byte) : (State.putAlpha n a s).ep = s.ep := rfl
@[simp] theorem State.putAlpha_idx1 (n : Nat) (a : Nat → Byte) : (State.putAlpha n a s).idx1 = s.idx1 := rfl
@[simp] theorem State.putAlpha_idx2 (n : Nat) (a : Nat → Byte) : (State.putAlpha n a s).idx2 = s.idx2 := rfl
@[simp] theorem State.putAlpha_subsetOf (n : Nat) (a : Nat → Byte) : (State.putAlpha n a s).subsetOf = s.subsetOf := rfl
@[simp] theorem State.putAlpha_anchor (n : Nat) (a : Nat → Byte) : (State.putAlpha n a s).anchor = s.anchor := rfl
@[simp] theorem State.putAlpha_px (n : Nat) (a : Nat → Byte) : (State.putAlpha n a s).px = s.px := rfl
@[simp] theorem State.putAlpha_dest (n : Nat) (a : Nat → Byte) : (State.putAlpha n a s).dest = s.dest := rfl
@[simp] theorem State.putAlpha_destLen (n : Nat) (a : Nat → Byte) : (State.putAlpha n a s).destLen = s.destLen := rfl
@[simp] theorem State.putAlpha_completion (n : Nat) (a : Nat → Byte) : (State.putAlpha n a s).completion = s.completion := rfl
@[simp] theorem State.putAlpha_inFlight (n : Nat) (a : Nat → Byte) : (State.putAlpha n a s).inFlight = s.inFlight := rfl
@[simp] theorem State.putAlpha_resetIn (n : Nat) (a : Nat → Byte) : (State.putAlpha n a s).resetIn = s.resetIn := rfl
@[simp] theorem State.putAlpha_freeCount (n : Nat) (a : Nat → Byte) : (State.putAlpha n a s).freeCount = s.freeCount := rfl

/-! ## putPBits -/

@[simp] theorem State.putPBits_seq (n : Nat) (p : Nat → BitVec 1) : (State.putPBits n p s).seq = s.seq := rfl
@[simp] theorem State.putPBits_requests (n : Nat) (p : Nat → BitVec 1) : (State.putPBits n p s).requests = s.requests := rfl
@[simp] theorem State.putPBits_blk (n : Nat) (p : Nat → BitVec 1) : (State.putPBits n p s).blk = s.blk := rfl
@[simp] theorem State.putPBits_blockX (n : Nat) (p : Nat → BitVec 1) : (State.putPBits n p s).blockX = s.blockX := rfl
@[simp] theorem State.putPBits_blockY (n : Nat) (p : Nat → BitVec 1) : (State.putPBits n p s).blockY = s.blockY := rfl
@[simp] theorem State.putPBits_imageWidth (n : Nat) (p : Nat → BitVec 1) : (State.putPBits n p s).imageWidth = s.imageWidth := rfl
@[simp] theorem State.putPBits_imageHeight (n : Nat) (p : Nat → BitVec 1) : (State.putPBits n p s).imageHeight = s.imageHeight := rfl
@[simp] theorem State.putPBits_bitPos (n : Nat) (p : Nat → BitVec 1) : (State.putPBits n p s).bitPos = s.bitPos := rfl
@[simp] theorem State.putPBits_mode (n : Nat) (p : Nat → BitVec 1) : (State.putPBits n p s).mode = s.mode := rfl
@[simp] theorem State.putPBits_desc (n : Nat) (p : Nat → BitVec 1) : (State.putPBits n p s).desc = s.desc := rfl
@[simp] theorem State.putPBits_partition (n : Nat) (p : Nat → BitVec 1) : (State.putPBits n p s).partition = s.partition := rfl
@[simp] theorem State.putPBits_rotation (n : Nat) (p : Nat → BitVec 1) : (State.putPBits n p s).rotation = s.rotation := rfl
@[simp] theorem State.putPBits_idxSel (n : Nat) (p : Nat → BitVec 1) : (State.putPBits n p s).idxSel = s.idxSel := rfl
@[simp] theorem State.putPBits_epRaw (n : Nat) (p : Nat → BitVec 1) : (State.putPBits n p s).epRaw = s.epRaw := rfl
@[simp] theorem State.putPBits_pbit (n : Nat) (p : Nat → BitVec 1) :
    (State.putPBits n p s).pbit = tab6 fun e => if e.val < n then p e.val else s.pbit[e] := rfl
@[simp] theorem State.putPBits_sp (n : Nat) (p : Nat → BitVec 1) : (State.putPBits n p s).sp = s.sp := rfl
@[simp] theorem State.putPBits_ep (n : Nat) (p : Nat → BitVec 1) : (State.putPBits n p s).ep = s.ep := rfl
@[simp] theorem State.putPBits_idx1 (n : Nat) (p : Nat → BitVec 1) : (State.putPBits n p s).idx1 = s.idx1 := rfl
@[simp] theorem State.putPBits_idx2 (n : Nat) (p : Nat → BitVec 1) : (State.putPBits n p s).idx2 = s.idx2 := rfl
@[simp] theorem State.putPBits_subsetOf (n : Nat) (p : Nat → BitVec 1) : (State.putPBits n p s).subsetOf = s.subsetOf := rfl
@[simp] theorem State.putPBits_anchor (n : Nat) (p : Nat → BitVec 1) : (State.putPBits n p s).anchor = s.anchor := rfl
@[simp] theorem State.putPBits_px (n : Nat) (p : Nat → BitVec 1) : (State.putPBits n p s).px = s.px := rfl
@[simp] theorem State.putPBits_dest (n : Nat) (p : Nat → BitVec 1) : (State.putPBits n p s).dest = s.dest := rfl
@[simp] theorem State.putPBits_destLen (n : Nat) (p : Nat → BitVec 1) : (State.putPBits n p s).destLen = s.destLen := rfl
@[simp] theorem State.putPBits_completion (n : Nat) (p : Nat → BitVec 1) : (State.putPBits n p s).completion = s.completion := rfl
@[simp] theorem State.putPBits_inFlight (n : Nat) (p : Nat → BitVec 1) : (State.putPBits n p s).inFlight = s.inFlight := rfl
@[simp] theorem State.putPBits_resetIn (n : Nat) (p : Nat → BitVec 1) : (State.putPBits n p s).resetIn = s.resetIn := rfl
@[simp] theorem State.putPBits_freeCount (n : Nat) (p : Nat → BitVec 1) : (State.putPBits n p s).freeCount = s.freeCount := rfl

/-! ## putSharedPBits -/

@[simp] theorem State.putSharedPBits_seq (n : Nat) (p : Nat → BitVec 1) : (State.putSharedPBits n p s).seq = s.seq := rfl
@[simp] theorem State.putSharedPBits_requests (n : Nat) (p : Nat → BitVec 1) : (State.putSharedPBits n p s).requests = s.requests := rfl
@[simp] theorem State.putSharedPBits_blk (n : Nat) (p : Nat → BitVec 1) : (State.putSharedPBits n p s).blk = s.blk := rfl
@[simp] theorem State.putSharedPBits_blockX (n : Nat) (p : Nat → BitVec 1) : (State.putSharedPBits n p s).blockX = s.blockX := rfl
@[simp] theorem State.putSharedPBits_blockY (n : Nat) (p : Nat → BitVec 1) : (State.putSharedPBits n p s).blockY = s.blockY := rfl
@[simp] theorem State.putSharedPBits_imageWidth (n : Nat) (p : Nat → BitVec 1) : (State.putSharedPBits n p s).imageWidth = s.imageWidth := rfl
@[simp] theorem State.putSharedPBits_imageHeight (n : Nat) (p : Nat → BitVec 1) : (State.putSharedPBits n p s).imageHeight = s.imageHeight := rfl
@[simp] theorem State.putSharedPBits_bitPos (n : Nat) (p : Nat → BitVec 1) : (State.putSharedPBits n p s).bitPos = s.bitPos := rfl
@[simp] theorem State.putSharedPBits_mode (n : Nat) (p : Nat → BitVec 1) : (State.putSharedPBits n p s).mode = s.mode := rfl
@[simp] theorem State.putSharedPBits_desc (n : Nat) (p : Nat → BitVec 1) : (State.putSharedPBits n p s).desc = s.desc := rfl
@[simp] theorem State.putSharedPBits_partition (n : Nat) (p : Nat → BitVec 1) : (State.putSharedPBits n p s).partition = s.partition := rfl
@[simp] theorem State.putSharedPBits_rotation (n : Nat) (p : Nat → BitVec 1) : (State.putSharedPBits n p s).rotation = s.rotation := rfl
@[simp] theorem State.putSharedPBits_idxSel (n : Nat) (p : Nat → BitVec 1) : (State.putSharedPBits n p s).idxSel = s.idxSel := rfl
@[simp] theorem State.putSharedPBits_epRaw (n : Nat) (p : Nat → BitVec 1) : (State.putSharedPBits n p s).epRaw = s.epRaw := rfl
@[simp] theorem State.putSharedPBits_pbit (n : Nat) (p : Nat → BitVec 1) :
    (State.putSharedPBits n p s).pbit = tab6 fun e => if e.val < 2 * n then p (e.val / 2) else s.pbit[e] := rfl
@[simp] theorem State.putSharedPBits_sp (n : Nat) (p : Nat → BitVec 1) :
    (State.putSharedPBits n p s).sp = tab3 fun t => if t.val < n then p t.val else s.sp[t] := rfl
@[simp] theorem State.putSharedPBits_ep (n : Nat) (p : Nat → BitVec 1) : (State.putSharedPBits n p s).ep = s.ep := rfl
@[simp] theorem State.putSharedPBits_idx1 (n : Nat) (p : Nat → BitVec 1) : (State.putSharedPBits n p s).idx1 = s.idx1 := rfl
@[simp] theorem State.putSharedPBits_idx2 (n : Nat) (p : Nat → BitVec 1) : (State.putSharedPBits n p s).idx2 = s.idx2 := rfl
@[simp] theorem State.putSharedPBits_subsetOf (n : Nat) (p : Nat → BitVec 1) : (State.putSharedPBits n p s).subsetOf = s.subsetOf := rfl
@[simp] theorem State.putSharedPBits_anchor (n : Nat) (p : Nat → BitVec 1) : (State.putSharedPBits n p s).anchor = s.anchor := rfl
@[simp] theorem State.putSharedPBits_px (n : Nat) (p : Nat → BitVec 1) : (State.putSharedPBits n p s).px = s.px := rfl
@[simp] theorem State.putSharedPBits_dest (n : Nat) (p : Nat → BitVec 1) : (State.putSharedPBits n p s).dest = s.dest := rfl
@[simp] theorem State.putSharedPBits_destLen (n : Nat) (p : Nat → BitVec 1) : (State.putSharedPBits n p s).destLen = s.destLen := rfl
@[simp] theorem State.putSharedPBits_completion (n : Nat) (p : Nat → BitVec 1) : (State.putSharedPBits n p s).completion = s.completion := rfl
@[simp] theorem State.putSharedPBits_inFlight (n : Nat) (p : Nat → BitVec 1) : (State.putSharedPBits n p s).inFlight = s.inFlight := rfl
@[simp] theorem State.putSharedPBits_resetIn (n : Nat) (p : Nat → BitVec 1) : (State.putSharedPBits n p s).resetIn = s.resetIn := rfl
@[simp] theorem State.putSharedPBits_freeCount (n : Nat) (p : Nat → BitVec 1) : (State.putSharedPBits n p s).freeCount = s.freeCount := rfl

/-! ## putIdx1 -/

@[simp] theorem State.putIdx1_seq (v : Fin 16 → BitVec 4) : (State.putIdx1 v s).seq = s.seq := rfl
@[simp] theorem State.putIdx1_requests (v : Fin 16 → BitVec 4) : (State.putIdx1 v s).requests = s.requests := rfl
@[simp] theorem State.putIdx1_blk (v : Fin 16 → BitVec 4) : (State.putIdx1 v s).blk = s.blk := rfl
@[simp] theorem State.putIdx1_blockX (v : Fin 16 → BitVec 4) : (State.putIdx1 v s).blockX = s.blockX := rfl
@[simp] theorem State.putIdx1_blockY (v : Fin 16 → BitVec 4) : (State.putIdx1 v s).blockY = s.blockY := rfl
@[simp] theorem State.putIdx1_imageWidth (v : Fin 16 → BitVec 4) : (State.putIdx1 v s).imageWidth = s.imageWidth := rfl
@[simp] theorem State.putIdx1_imageHeight (v : Fin 16 → BitVec 4) : (State.putIdx1 v s).imageHeight = s.imageHeight := rfl
@[simp] theorem State.putIdx1_bitPos (v : Fin 16 → BitVec 4) : (State.putIdx1 v s).bitPos = s.bitPos := rfl
@[simp] theorem State.putIdx1_mode (v : Fin 16 → BitVec 4) : (State.putIdx1 v s).mode = s.mode := rfl
@[simp] theorem State.putIdx1_desc (v : Fin 16 → BitVec 4) : (State.putIdx1 v s).desc = s.desc := rfl
@[simp] theorem State.putIdx1_partition (v : Fin 16 → BitVec 4) : (State.putIdx1 v s).partition = s.partition := rfl
@[simp] theorem State.putIdx1_rotation (v : Fin 16 → BitVec 4) : (State.putIdx1 v s).rotation = s.rotation := rfl
@[simp] theorem State.putIdx1_idxSel (v : Fin 16 → BitVec 4) : (State.putIdx1 v s).idxSel = s.idxSel := rfl
@[simp] theorem State.putIdx1_epRaw (v : Fin 16 → BitVec 4) : (State.putIdx1 v s).epRaw = s.epRaw := rfl
@[simp] theorem State.putIdx1_pbit (v : Fin 16 → BitVec 4) : (State.putIdx1 v s).pbit = s.pbit := rfl
@[simp] theorem State.putIdx1_sp (v : Fin 16 → BitVec 4) : (State.putIdx1 v s).sp = s.sp := rfl
@[simp] theorem State.putIdx1_ep (v : Fin 16 → BitVec 4) : (State.putIdx1 v s).ep = s.ep := rfl
@[simp] theorem State.putIdx1_idx1 (v : Fin 16 → BitVec 4) : (State.putIdx1 v s).idx1 = tab16 v := rfl
@[simp] theorem State.putIdx1_idx2 (v : Fin 16 → BitVec 4) : (State.putIdx1 v s).idx2 = s.idx2 := rfl
@[simp] theorem State.putIdx1_subsetOf (v : Fin 16 → BitVec 4) : (State.putIdx1 v s).subsetOf = s.subsetOf := rfl
@[simp] theorem State.putIdx1_anchor (v : Fin 16 → BitVec 4) : (State.putIdx1 v s).anchor = s.anchor := rfl
@[simp] theorem State.putIdx1_px (v : Fin 16 → BitVec 4) : (State.putIdx1 v s).px = s.px := rfl
@[simp] theorem State.putIdx1_dest (v : Fin 16 → BitVec 4) : (State.putIdx1 v s).dest = s.dest := rfl
@[simp] theorem State.putIdx1_destLen (v : Fin 16 → BitVec 4) : (State.putIdx1 v s).destLen = s.destLen := rfl
@[simp] theorem State.putIdx1_completion (v : Fin 16 → BitVec 4) : (State.putIdx1 v s).completion = s.completion := rfl
@[simp] theorem State.putIdx1_inFlight (v : Fin 16 → BitVec 4) : (State.putIdx1 v s).inFlight = s.inFlight := rfl
@[simp] theorem State.putIdx1_resetIn (v : Fin 16 → BitVec 4) : (State.putIdx1 v s).resetIn = s.resetIn := rfl
@[simp] theorem State.putIdx1_freeCount (v : Fin 16 → BitVec 4) : (State.putIdx1 v s).freeCount = s.freeCount := rfl

/-! ## putIdx2 -/

@[simp] theorem State.putIdx2_seq (v : Fin 16 → BitVec 3) : (State.putIdx2 v s).seq = s.seq := rfl
@[simp] theorem State.putIdx2_requests (v : Fin 16 → BitVec 3) : (State.putIdx2 v s).requests = s.requests := rfl
@[simp] theorem State.putIdx2_blk (v : Fin 16 → BitVec 3) : (State.putIdx2 v s).blk = s.blk := rfl
@[simp] theorem State.putIdx2_blockX (v : Fin 16 → BitVec 3) : (State.putIdx2 v s).blockX = s.blockX := rfl
@[simp] theorem State.putIdx2_blockY (v : Fin 16 → BitVec 3) : (State.putIdx2 v s).blockY = s.blockY := rfl
@[simp] theorem State.putIdx2_imageWidth (v : Fin 16 → BitVec 3) : (State.putIdx2 v s).imageWidth = s.imageWidth := rfl
@[simp] theorem State.putIdx2_imageHeight (v : Fin 16 → BitVec 3) : (State.putIdx2 v s).imageHeight = s.imageHeight := rfl
@[simp] theorem State.putIdx2_bitPos (v : Fin 16 → BitVec 3) : (State.putIdx2 v s).bitPos = s.bitPos := rfl
@[simp] theorem State.putIdx2_mode (v : Fin 16 → BitVec 3) : (State.putIdx2 v s).mode = s.mode := rfl
@[simp] theorem State.putIdx2_desc (v : Fin 16 → BitVec 3) : (State.putIdx2 v s).desc = s.desc := rfl
@[simp] theorem State.putIdx2_partition (v : Fin 16 → BitVec 3) : (State.putIdx2 v s).partition = s.partition := rfl
@[simp] theorem State.putIdx2_rotation (v : Fin 16 → BitVec 3) : (State.putIdx2 v s).rotation = s.rotation := rfl
@[simp] theorem State.putIdx2_idxSel (v : Fin 16 → BitVec 3) : (State.putIdx2 v s).idxSel = s.idxSel := rfl
@[simp] theorem State.putIdx2_epRaw (v : Fin 16 → BitVec 3) : (State.putIdx2 v s).epRaw = s.epRaw := rfl
@[simp] theorem State.putIdx2_pbit (v : Fin 16 → BitVec 3) : (State.putIdx2 v s).pbit = s.pbit := rfl
@[simp] theorem State.putIdx2_sp (v : Fin 16 → BitVec 3) : (State.putIdx2 v s).sp = s.sp := rfl
@[simp] theorem State.putIdx2_ep (v : Fin 16 → BitVec 3) : (State.putIdx2 v s).ep = s.ep := rfl
@[simp] theorem State.putIdx2_idx1 (v : Fin 16 → BitVec 3) : (State.putIdx2 v s).idx1 = s.idx1 := rfl
@[simp] theorem State.putIdx2_idx2 (v : Fin 16 → BitVec 3) : (State.putIdx2 v s).idx2 = tab16 v := rfl
@[simp] theorem State.putIdx2_subsetOf (v : Fin 16 → BitVec 3) : (State.putIdx2 v s).subsetOf = s.subsetOf := rfl
@[simp] theorem State.putIdx2_anchor (v : Fin 16 → BitVec 3) : (State.putIdx2 v s).anchor = s.anchor := rfl
@[simp] theorem State.putIdx2_px (v : Fin 16 → BitVec 3) : (State.putIdx2 v s).px = s.px := rfl
@[simp] theorem State.putIdx2_dest (v : Fin 16 → BitVec 3) : (State.putIdx2 v s).dest = s.dest := rfl
@[simp] theorem State.putIdx2_destLen (v : Fin 16 → BitVec 3) : (State.putIdx2 v s).destLen = s.destLen := rfl
@[simp] theorem State.putIdx2_completion (v : Fin 16 → BitVec 3) : (State.putIdx2 v s).completion = s.completion := rfl
@[simp] theorem State.putIdx2_inFlight (v : Fin 16 → BitVec 3) : (State.putIdx2 v s).inFlight = s.inFlight := rfl
@[simp] theorem State.putIdx2_resetIn (v : Fin 16 → BitVec 3) : (State.putIdx2 v s).resetIn = s.resetIn := rfl
@[simp] theorem State.putIdx2_freeCount (v : Fin 16 → BitVec 3) : (State.putIdx2 v s).freeCount = s.freeCount := rfl

/-! ## dequantize -/

@[simp] theorem State.dequantize_seq : (State.dequantize s).seq = s.seq := rfl
@[simp] theorem State.dequantize_requests : (State.dequantize s).requests = s.requests := rfl
@[simp] theorem State.dequantize_blk : (State.dequantize s).blk = s.blk := rfl
@[simp] theorem State.dequantize_blockX : (State.dequantize s).blockX = s.blockX := rfl
@[simp] theorem State.dequantize_blockY : (State.dequantize s).blockY = s.blockY := rfl
@[simp] theorem State.dequantize_imageWidth : (State.dequantize s).imageWidth = s.imageWidth := rfl
@[simp] theorem State.dequantize_imageHeight : (State.dequantize s).imageHeight = s.imageHeight := rfl
@[simp] theorem State.dequantize_bitPos : (State.dequantize s).bitPos = s.bitPos := rfl
@[simp] theorem State.dequantize_mode : (State.dequantize s).mode = s.mode := rfl
@[simp] theorem State.dequantize_desc : (State.dequantize s).desc = s.desc := rfl
@[simp] theorem State.dequantize_partition : (State.dequantize s).partition = s.partition := rfl
@[simp] theorem State.dequantize_rotation : (State.dequantize s).rotation = s.rotation := rfl
@[simp] theorem State.dequantize_idxSel : (State.dequantize s).idxSel = s.idxSel := rfl
@[simp] theorem State.dequantize_epRaw : (State.dequantize s).epRaw = s.epRaw := rfl
@[simp] theorem State.dequantize_pbit : (State.dequantize s).pbit = s.pbit := rfl
@[simp] theorem State.dequantize_sp : (State.dequantize s).sp = s.sp := rfl
@[simp] theorem State.dequantize_ep :
    (State.dequantize s).ep = tab6 fun e =>
      if e.val < s.desc.ne then dqEndpoint s.desc s.epRaw[e] (pOf s.desc s.pbit[e]) else s.ep[e] := rfl
@[simp] theorem State.dequantize_idx1 : (State.dequantize s).idx1 = s.idx1 := rfl
@[simp] theorem State.dequantize_idx2 : (State.dequantize s).idx2 = s.idx2 := rfl
@[simp] theorem State.dequantize_subsetOf : (State.dequantize s).subsetOf = s.subsetOf := rfl
@[simp] theorem State.dequantize_anchor : (State.dequantize s).anchor = s.anchor := rfl
@[simp] theorem State.dequantize_px : (State.dequantize s).px = s.px := rfl
@[simp] theorem State.dequantize_dest : (State.dequantize s).dest = s.dest := rfl
@[simp] theorem State.dequantize_destLen : (State.dequantize s).destLen = s.destLen := rfl
@[simp] theorem State.dequantize_completion : (State.dequantize s).completion = s.completion := rfl
@[simp] theorem State.dequantize_inFlight : (State.dequantize s).inFlight = s.inFlight := rfl
@[simp] theorem State.dequantize_resetIn : (State.dequantize s).resetIn = s.resetIn := rfl
@[simp] theorem State.dequantize_freeCount : (State.dequantize s).freeCount = s.freeCount := rfl

/-! ## interpolatePixels -/

@[simp] theorem State.interpolatePixels_seq : (State.interpolatePixels s).seq = s.seq := rfl
@[simp] theorem State.interpolatePixels_requests : (State.interpolatePixels s).requests = s.requests := rfl
@[simp] theorem State.interpolatePixels_blk : (State.interpolatePixels s).blk = s.blk := rfl
@[simp] theorem State.interpolatePixels_blockX : (State.interpolatePixels s).blockX = s.blockX := rfl
@[simp] theorem State.interpolatePixels_blockY : (State.interpolatePixels s).blockY = s.blockY := rfl
@[simp] theorem State.interpolatePixels_imageWidth : (State.interpolatePixels s).imageWidth = s.imageWidth := rfl
@[simp] theorem State.interpolatePixels_imageHeight : (State.interpolatePixels s).imageHeight = s.imageHeight := rfl
@[simp] theorem State.interpolatePixels_bitPos : (State.interpolatePixels s).bitPos = s.bitPos := rfl
@[simp] theorem State.interpolatePixels_mode : (State.interpolatePixels s).mode = s.mode := rfl
@[simp] theorem State.interpolatePixels_desc : (State.interpolatePixels s).desc = s.desc := rfl
@[simp] theorem State.interpolatePixels_partition : (State.interpolatePixels s).partition = s.partition := rfl
@[simp] theorem State.interpolatePixels_rotation : (State.interpolatePixels s).rotation = s.rotation := rfl
@[simp] theorem State.interpolatePixels_idxSel : (State.interpolatePixels s).idxSel = s.idxSel := rfl
@[simp] theorem State.interpolatePixels_epRaw : (State.interpolatePixels s).epRaw = s.epRaw := rfl
@[simp] theorem State.interpolatePixels_pbit : (State.interpolatePixels s).pbit = s.pbit := rfl
@[simp] theorem State.interpolatePixels_sp : (State.interpolatePixels s).sp = s.sp := rfl
@[simp] theorem State.interpolatePixels_ep : (State.interpolatePixels s).ep = s.ep := rfl
@[simp] theorem State.interpolatePixels_idx1 : (State.interpolatePixels s).idx1 = s.idx1 := rfl
@[simp] theorem State.interpolatePixels_idx2 : (State.interpolatePixels s).idx2 = s.idx2 := rfl
@[simp] theorem State.interpolatePixels_subsetOf : (State.interpolatePixels s).subsetOf = s.subsetOf := rfl
@[simp] theorem State.interpolatePixels_anchor : (State.interpolatePixels s).anchor = s.anchor := rfl
@[simp] theorem State.interpolatePixels_px :
    (State.interpolatePixels s).px = tab16 fun i => s.blendedPixel i := rfl
@[simp] theorem State.interpolatePixels_dest : (State.interpolatePixels s).dest = s.dest := rfl
@[simp] theorem State.interpolatePixels_destLen : (State.interpolatePixels s).destLen = s.destLen := rfl
@[simp] theorem State.interpolatePixels_completion : (State.interpolatePixels s).completion = s.completion := rfl
@[simp] theorem State.interpolatePixels_inFlight : (State.interpolatePixels s).inFlight = s.inFlight := rfl
@[simp] theorem State.interpolatePixels_resetIn : (State.interpolatePixels s).resetIn = s.resetIn := rfl
@[simp] theorem State.interpolatePixels_freeCount : (State.interpolatePixels s).freeCount = s.freeCount := rfl

/-! ## applyRotation -/

@[simp] theorem State.applyRotation_seq : (State.applyRotation s).seq = s.seq := rfl
@[simp] theorem State.applyRotation_requests : (State.applyRotation s).requests = s.requests := rfl
@[simp] theorem State.applyRotation_blk : (State.applyRotation s).blk = s.blk := rfl
@[simp] theorem State.applyRotation_blockX : (State.applyRotation s).blockX = s.blockX := rfl
@[simp] theorem State.applyRotation_blockY : (State.applyRotation s).blockY = s.blockY := rfl
@[simp] theorem State.applyRotation_imageWidth : (State.applyRotation s).imageWidth = s.imageWidth := rfl
@[simp] theorem State.applyRotation_imageHeight : (State.applyRotation s).imageHeight = s.imageHeight := rfl
@[simp] theorem State.applyRotation_bitPos : (State.applyRotation s).bitPos = s.bitPos := rfl
@[simp] theorem State.applyRotation_mode : (State.applyRotation s).mode = s.mode := rfl
@[simp] theorem State.applyRotation_desc : (State.applyRotation s).desc = s.desc := rfl
@[simp] theorem State.applyRotation_partition : (State.applyRotation s).partition = s.partition := rfl
@[simp] theorem State.applyRotation_rotation : (State.applyRotation s).rotation = s.rotation := rfl
@[simp] theorem State.applyRotation_idxSel : (State.applyRotation s).idxSel = s.idxSel := rfl
@[simp] theorem State.applyRotation_epRaw : (State.applyRotation s).epRaw = s.epRaw := rfl
@[simp] theorem State.applyRotation_pbit : (State.applyRotation s).pbit = s.pbit := rfl
@[simp] theorem State.applyRotation_sp : (State.applyRotation s).sp = s.sp := rfl
@[simp] theorem State.applyRotation_ep : (State.applyRotation s).ep = s.ep := rfl
@[simp] theorem State.applyRotation_idx1 : (State.applyRotation s).idx1 = s.idx1 := rfl
@[simp] theorem State.applyRotation_idx2 : (State.applyRotation s).idx2 = s.idx2 := rfl
@[simp] theorem State.applyRotation_subsetOf : (State.applyRotation s).subsetOf = s.subsetOf := rfl
@[simp] theorem State.applyRotation_anchor : (State.applyRotation s).anchor = s.anchor := rfl
@[simp] theorem State.applyRotation_px :
    (State.applyRotation s).px = tab16 fun i => rotate s.rotation s.px[i] := rfl
@[simp] theorem State.applyRotation_dest : (State.applyRotation s).dest = s.dest := rfl
@[simp] theorem State.applyRotation_destLen : (State.applyRotation s).destLen = s.destLen := rfl
@[simp] theorem State.applyRotation_completion : (State.applyRotation s).completion = s.completion := rfl
@[simp] theorem State.applyRotation_inFlight : (State.applyRotation s).inFlight = s.inFlight := rfl
@[simp] theorem State.applyRotation_resetIn : (State.applyRotation s).resetIn = s.resetIn := rfl
@[simp] theorem State.applyRotation_freeCount : (State.applyRotation s).freeCount = s.freeCount := rfl

/-! ## accept -/

@[simp] theorem State.accept_seq (r : Request) (rest : List Request) :
    (State.accept r rest s).seq = .detectMode := rfl
@[simp] theorem State.accept_requests (r : Request) (rest : List Request) :
    (State.accept r rest s).requests = rest := rfl
@[simp] theorem State.accept_blk (r : Request) (rest : List Request) :
    (State.accept r rest s).blk = blockOfBytes r.blockBytes := rfl
@[simp] theorem State.accept_blockX (r : Request) (rest : List Request) :
    (State.accept r rest s).blockX = r.blockX := rfl
@[simp] theorem State.accept_blockY (r : Request) (rest : List Request) :
    (State.accept r rest s).blockY = r.blockY := rfl
@[simp] theorem State.accept_imageWidth (r : Request) (rest : List Request) :
    (State.accept r rest s).imageWidth = r.imageWidth := rfl
@[simp] theorem State.accept_imageHeight (r : Request) (rest : List Request) :
    (State.accept r rest s).imageHeight = r.imageHeight := rfl
@[simp] theorem State.accept_bitPos (r : Request) (rest : List Request) :
    (State.accept r rest s).bitPos = 0 := rfl
@[simp] theorem State.accept_mode (r : Request) (rest : List Request) :
    (State.accept r rest s).mode = s.mode := rfl
@[simp] theorem State.accept_desc (r : Request) (rest : List Request) :
    (State.accept r rest s).desc = s.desc := rfl
@[simp] theorem State.accept_partition (r : Request) (rest : List Request) :
    (State.accept r rest s).partition = s.partition := rfl
@[simp] theorem State.accept_rotation (r : Request) (rest : List Request) :
    (State.accept r rest s).rotation = s.rotation := rfl
@[simp] theorem State.accept_idxSel (r : Request) (rest : List Request) :
    (State.accept r rest s).idxSel = s.idxSel := rfl
@[simp] theorem State.accept_epRaw (r : Request) (rest : List Request) :
    (State.accept r rest s).epRaw = s.epRaw := rfl
@[simp] theorem State.accept_pbit (r : Request) (rest : List Request) :
    (State.accept r rest s).pbit = s.pbit := rfl
@[simp] theorem State.accept_sp (r : Request) (rest : List Request) :
    (State.accept r rest s).sp = s.sp := rfl
@[simp] theorem State.accept_ep (r : Request) (rest : List Request) :
    (State.accept r rest s).ep = s.ep := rfl
@[simp] theorem State.accept_idx1 (r : Request) (rest : List Request) :
    (State.accept r rest s).idx1 = s.idx1 := rfl
@[simp] theorem State.accept_idx2 (r : Request) (rest : List Request) :
    (State.accept r rest s).idx2 = s.idx2 := rfl
@[simp] theorem State.accept_subsetOf (r : Request) (rest : List Request) :
    (State.accept r rest s).subsetOf = s.subsetOf := rfl
@[simp] theorem State.accept_anchor (r : Request) (rest : List Request) :
    (State.accept r rest s).anchor = s.anchor := rfl
@[simp] theorem State.accept_px (r : Request) (rest : List Request) :
    (State.accept r rest s).px = s.px := rfl
@[simp] theorem State.accept_dest (r : Request) (rest : List Request) :
    (State.accept r rest s).dest = s.dest := rfl
@[simp] theorem State.accept_destLen (r : Request) (rest : List Request) :
    (State.accept r rest s).destLen = s.destLen := rfl
@[simp] theorem State.accept_completion (r : Request) (rest : List Request) :
    (State.accept r rest s).completion = false := rfl
@[simp] theorem State.accept_inFlight (r : Request) (rest : List Request) :
    (State.accept r rest s).inFlight = s.inFlight := rfl
@[simp] theorem State.accept_resetIn (r : Request) (rest : List Request) :
    (State.accept r rest s).resetIn = s.resetIn := rfl
@[simp] theorem State.accept_freeCount (r : Request) (rest : List Request) :
    (State.accept r rest s).freeCount = s.freeCount := rfl

/-! ## resetRegisters -/

@[simp] theorem State.resetRegisters_seq (m : Memory) : (State.resetRegisters m s).seq = State.reset.seq := rfl
@[simp] theorem State.resetRegisters_requests (m : Memory) : (State.resetRegisters m s).requests = s.requests := rfl
@[simp] theorem State.resetRegisters_blk (m : Memory) : (State.resetRegisters m s).blk = State.reset.blk := rfl
@[simp] theorem State.resetRegisters_blockX (m : Memory) : (State.resetRegisters m s).blockX = State.reset.blockX := rfl
@[simp] theorem State.resetRegisters_blockY (m : Memory) : (State.resetRegisters m s).blockY = State.reset.blockY := rfl
@[simp] theorem State.resetRegisters_imageWidth (m : Memory) : (State.resetRegisters m s).imageWidth = State.reset.imageWidth := rfl
@[simp] theorem State.resetRegisters_imageHeight (m : Memory) : (State.resetRegisters m s).imageHeight = State.reset.imageHeight := rfl
@[simp] theorem State.resetRegisters_bitPos (m : Memory) : (State.resetRegisters m s).bitPos = State.reset.bitPos := rfl
@[simp] theorem State.resetRegisters_mode (m : Memory) : (State.resetRegisters m s).mode = State.reset.mode := rfl
@[simp] theorem State.resetRegisters_desc (m : Memory) : (State.resetRegisters m s).desc = State.reset.desc := rfl
@[simp] theorem State.resetRegisters_partition (m : Memory) : (State.resetRegisters m s).partition = State.reset.partition := rfl
@[simp] theorem State.resetRegisters_rotation (m : Memory) : (State.resetRegisters m s).rotation = State.reset.rotation := rfl
@[simp] theorem State.resetRegisters_idxSel (m : Memory) : (State.resetRegisters m s).idxSel = State.reset.idxSel := rfl
@[simp] theorem State.resetRegisters_epRaw (m : Memory) : (State.resetRegisters m s).epRaw = State.reset.epRaw := rfl
@[simp] theorem State.resetRegisters_pbit (m : Memory) : (State.resetRegisters m s).pbit = State.reset.pbit := rfl
@[simp] theorem State.resetRegisters_sp (m : Memory) : (State.resetRegisters m s).sp = State.reset.sp := rfl
@[simp] theorem State.resetRegisters_ep (m : Memory) : (State.resetRegisters m s).ep = State.reset.ep := rfl
@[simp] theorem State.resetRegisters_idx1 (m : Memory) : (State.resetRegisters m s).idx1 = State.reset.idx1 := rfl
@[simp] theorem State.resetRegisters_idx2 (m : Memory) : (State.resetRegisters m s).idx2 = State.reset.idx2 := rfl
@[simp] theorem State.resetRegisters_subsetOf (m : Memory) : (State.resetRegisters m s).subsetOf = State.reset.subsetOf := rfl
@[simp] theorem State.resetRegisters_anchor (m : Memory) : (State.resetRegisters m s).anchor = State.reset.anchor := rfl
@[simp] theorem State.resetRegisters_px (m : Memory) : (State.resetRegisters m s).px = State.reset.px := rfl
@[simp] theorem State.resetRegisters_dest (m : Memory) : (State.resetRegisters m s).dest = m := rfl
@[simp] theorem State.resetRegisters_destLen (m : Memory) : (State.resetRegisters m s).destLen = s.destLen := rfl
@[simp] theorem State.resetRegisters_completion (m : Memory) : (State.resetRegisters m s).completion = State.reset.completion := rfl
@[simp] theorem State.resetRegisters_inFlight (m : Memory) : (State.resetRegisters m s).inFlight = s.inFlight := rfl
@[simp] theorem State.resetRegisters_resetIn (m : Memory) : (State.resetRegisters m s).resetIn = State.reset.resetIn := rfl
@[simp] theorem State.resetRegisters_freeCount (m : Memory) : (State.resetRegisters m s).freeCount = s.freeCount + 1 := rfl

end Sys2Proof.Machine
end

