-- ==== Sys2Proof/Laws/Memory.lean ====
section
/-! SUPPORT. The laws of `destRGBA`: a read after a write, the canonical form, and what a decode's pixel writes leave alone. -/

namespace Sys2Proof.Machine

/-! ## One byte -/

@[simp] theorem Memory.read_nil (a : Nat) : Memory.read [] a = none := rfl

theorem Memory.read_cons (c : Host.Cell) (m : Memory) (a : Nat) :
    Memory.read (c :: m) a = if a = c.1 then some c.2 else Memory.read m a := rfl

@[simp] theorem Memory.read_write_same (m : Memory) (a : Nat) (b : Byte) : (m.write a b).read a = some b := by
  induction m with
  | nil => simp [Memory.write, Memory.read_cons]
  | cons c m ih =>
    obtain ⟨a', b'⟩ := c
    simp only [Memory.write]
    split
    · simp [Memory.read_cons]
    · split
      · simp [Memory.read_cons]
      · rename_i h; simp [Memory.read_cons, h, ih]

theorem Memory.read_write_other (m : Memory) {a a' : Nat} (b : Byte) (h : a' ≠ a) :
    (m.write a b).read a' = m.read a' := by
  induction m with
  | nil => simp [Memory.write, Memory.read_cons, h]
  | cons c m ih =>
    obtain ⟨x, y⟩ := c
    simp only [Memory.write]
    split
    · simp [Memory.read_cons, h]
    · split
      · rename_i h2; subst h2; simp [Memory.read_cons, h]
      · simp [Memory.read_cons, ih]

/-- A read after a write, in one equation. -/
theorem Memory.read_write (m : Memory) (a a' : Nat) (b : Byte) :
    (m.write a b).read a' = if a' = a then some b else m.read a' := by
  split
  · rename_i h; subst h; simp
  · rename_i h; exact m.read_write_other b h

/-! ## The canonical form -/

theorem risingFrom_mono {low low' : Nat} (h : low' ≤ low) : ∀ {m : List Host.Cell}, risingFrom low m → risingFrom low' m
  | [], _ => rfl
  | (a, b) :: m, hm => by
    simp only [risingFrom, Bool.and_eq_true, decide_eq_true_eq] at hm ⊢
    exact ⟨by omega, hm.2⟩

theorem risingFrom_write {low a : Nat} {b : Byte} (ha : low ≤ a) :
    ∀ {m : Memory}, risingFrom low m → risingFrom low (m.write a b) := by
  intro m
  induction m generalizing low with
  | nil => intro _; simp [Memory.write, risingFrom, ha]
  | cons c m ih =>
    obtain ⟨x, y⟩ := c
    intro hm
    simp only [risingFrom, Bool.and_eq_true, decide_eq_true_eq] at hm
    simp only [Memory.write]
    split
    · simp only [risingFrom, Bool.and_eq_true, decide_eq_true_eq]; exact ⟨ha, by omega, hm.2⟩
    · split
      · rename_i h; subst h; simp only [risingFrom, Bool.and_eq_true, decide_eq_true_eq]; exact ⟨ha, hm.2⟩
      · simp only [risingFrom, Bool.and_eq_true, decide_eq_true_eq]; exact ⟨hm.1, ih (by omega) hm.2⟩

/-- A write keeps the canonical form. -/
theorem Memory.write_wf {m : Memory} (a : Nat) (b : Byte) (h : m.wf) : (m.write a b).wf :=
  risingFrom_write (Nat.zero_le a) h

/-- Nothing is listed below the offset a rising list starts from. -/
theorem read_none_of_risingFrom {low a : Nat} (ha : a < low) : ∀ {m : Memory}, risingFrom low m → m.read a = none
  | [], _ => rfl
  | (x, y) :: m, hm => by
    simp only [risingFrom, Bool.and_eq_true, decide_eq_true_eq] at hm
    rw [Memory.read_cons, if_neg (by simp; omega)]
    exact read_none_of_risingFrom (by omega) hm.2

theorem risingFrom_ext : ∀ {m n : Memory} {low : Nat}, risingFrom low m → risingFrom low n →
    (∀ a, m.read a = n.read a) → m = n
  | [], [], _, _, _, _ => rfl
  | [], (x, y) :: n, _, _, _, h => by have := h x; simp [Memory.read_cons] at this
  | (x, y) :: m, [], _, _, _, h => by have := h x; simp [Memory.read_cons] at this
  | (x, y) :: m, (x', y') :: n, low, hm, hn, h => by
    simp only [risingFrom, Bool.and_eq_true, decide_eq_true_eq] at hm hn
    have hx : x = x' := by
      rcases Nat.lt_trichotomy x x' with hlt | heq | hgt
      · have := h x
        rw [Memory.read_cons, if_pos rfl, Memory.read_cons, if_neg (by simp; omega),
          read_none_of_risingFrom (by omega) hn.2] at this
        simp at this
      · exact heq
      · have := h x'
        rw [Memory.read_cons, if_neg (by simp; omega), read_none_of_risingFrom (by omega) hm.2,
          Memory.read_cons, if_pos rfl] at this
        simp at this
    subst hx
    have hy : y = y' := by simpa [Memory.read_cons] using h x
    subst hy
    have : m = n := risingFrom_ext hm.2 hn.2 fun a => by
      by_cases hax : a = x
      · subst hax
        rw [read_none_of_risingFrom (by omega) hm.2, read_none_of_risingFrom (by omega) hn.2]
      · simpa [Memory.read_cons, hax] using h a
    rw [this]

/-- Canonical memories that read alike are equal: equal memories are equal data. -/
theorem Memory.ext_of_read {m n : Memory} (hm : m.wf) (hn : n.wf) (h : ∀ a, m.read a = n.read a) : m = n :=
  risingFrom_ext hm hn h

/-- Every listed offset after a write is the one written or one listed before. -/
theorem Memory.mem_write {m : Memory} {a : Nat} {b : Byte} {c : Host.Cell} (h : c ∈ m.write a b) : c = (a, b) ∨ c ∈ m := by
  induction m with
  | nil => simpa [Memory.write] using h
  | cons d m ih =>
    obtain ⟨x, y⟩ := d
    simp only [Memory.write] at h
    split at h
    · simpa using h
    · split at h
      · simp only [List.mem_cons] at h ⊢; tauto
      · simp only [List.mem_cons] at h ⊢
        rcases h with h | h
        · tauto
        · rcases ih h with h | h <;> tauto

/-! ## Four bytes, and the pixels of a block -/

theorem Memory.write4_wf {m : Memory} (off : Nat) (v : BitVec 32) (h : m.wf) : (m.write4 off v).wf :=
  Memory.write_wf _ _ (Memory.write_wf _ _ (Memory.write_wf _ _ (Memory.write_wf _ _ h)))

/-- Outside its four bytes a pixel write leaves memory alone (R90). -/
theorem Memory.read_write4_other (m : Memory) {off a : Nat} (v : BitVec 32) (h : a < off ∨ off + 4 ≤ a) :
    (m.write4 off v).read a = m.read a := by
  unfold Memory.write4
  rw [Memory.read_write_other _ _ (by omega), Memory.read_write_other _ _ (by omega),
    Memory.read_write_other _ _ (by omega), Memory.read_write_other _ _ (by omega)]

/-- Byte k of the word stands at off + k (R86). -/
theorem Memory.read_write4 (m : Memory) (off : Nat) (v : BitVec 32) {k : Nat} (h : k < 4) :
    (m.write4 off v).read (off + k) = some (v.extractLsb' (8 * k) 8) := by
  unfold Memory.write4
  match k, h with
  | 0, _ => simp [Memory.read_write]
  | 1, _ => simp [Memory.read_write]
  | 2, _ => simp [Memory.read_write]
  | 3, _ => simp

theorem State.writePixel_wf (s : State) {m : Memory} (i : Fin 16) (h : m.wf) : (s.writePixel m i).wf := by
  unfold State.writePixel; split
  · exact Memory.write4_wf _ _ h
  · exact h

theorem State.writePixels_wf (s : State) (order : List (Fin 16)) {m : Memory} (h : m.wf) :
    (s.writePixels order m).wf := by
  unfold State.writePixels
  induction order generalizing m with
  | nil => exact h
  | cons i order ih => exact ih (s.writePixel_wf i h)

/-- A byte that no in-bounds pixel of the order covers reads as before (R264). -/
theorem State.read_writePixels_other (s : State) (order : List (Fin 16)) (m : Memory) (a : Nat)
    (h : ∀ i ∈ order, s.inBounds i → a < s.pixelOffset i ∨ s.pixelOffset i + 4 ≤ a) :
    (s.writePixels order m).read a = m.read a := by
  unfold State.writePixels
  induction order generalizing m with
  | nil => rfl
  | cons i order ih =>
    rw [List.foldl_cons, ih _ fun j hj => h j (List.mem_cons_of_mem _ hj)]
    unfold State.writePixel
    split
    · rename_i hb; exact Memory.read_write4_other _ _ (h i (List.mem_cons_self ..) hb)
    · rfl

/-- A byte outside the footprint reads as before a decode's writes (R264). -/
theorem State.read_writePixels_outside (s : State) (m : Memory) {a : Nat} (h : s.inFootprint a = false) :
    (s.writePixels pixelNumbers m).read a = m.read a := by
  refine s.read_writePixels_other _ _ _ fun i _ hb => ?_
  have hi : i ∈ pixelNumbers := List.mem_finRange i
  have := List.any_eq_false.mp h i hi
  simp only [hb, Bool.true_and, Bool.and_eq_true, decide_eq_true_eq, not_and, Nat.not_lt] at this
  omega

/-- Every in-bounds pixel lies inside the W·H·4 bytes of the image (R92). -/
theorem State.pixelOffset_bound (s : State) {i : Fin 16} (h : s.inBounds i) :
    s.pixelOffset i + 4 ≤ s.imageWidth * s.imageHeight * 4 := by
  simp only [State.inBounds, Bool.and_eq_true, decide_eq_true_eq] at h
  obtain ⟨hx, hy⟩ := h
  have h1 : (s.pixelY i + 1) * s.imageWidth ≤ s.imageHeight * s.imageWidth := Nat.mul_le_mul_right _ hy
  have h2 : (s.pixelY i + 1) * s.imageWidth = s.pixelY i * s.imageWidth + s.imageWidth := Nat.succ_mul _ _
  have h3 : s.imageHeight * s.imageWidth = s.imageWidth * s.imageHeight := Nat.mul_comm _ _
  unfold State.pixelOffset
  omega

/-- Distinct in-bounds pixels have distinct offsets (R93). -/
theorem State.pixelOffset_injective (s : State) {i j : Fin 16} (hi : s.inBounds i) (hj : s.inBounds j)
    (h : s.pixelOffset i = s.pixelOffset j) : i = j := by
  simp only [State.inBounds, Bool.and_eq_true, decide_eq_true_eq] at hi hj
  simp only [State.pixelOffset] at h
  have h' : s.pixelY i * s.imageWidth + s.pixelX i = s.pixelY j * s.imageWidth + s.pixelX j := by omega
  have hw : 0 < s.imageWidth := by omega
  have hX : s.pixelX i = s.pixelX j := by
    have := congrArg (· % s.imageWidth) h'
    simpa [Nat.mul_add_mod_self_right, Nat.mod_eq_of_lt hi.1, Nat.mod_eq_of_lt hj.1] using this
  have hY : s.pixelY i = s.pixelY j := by
    rw [hX] at h'
    exact Nat.eq_of_mul_eq_mul_right hw (by omega)
  simp only [State.pixelX, State.pixelY] at hX hY
  have := i.isLt; have := j.isLt
  ext; omega

end Sys2Proof.Machine
end

