-- ==== Sys2Proof/Laws/Word.lean ====
section
/-! SUPPORT. Reading a register array that is written out entry by entry. -/

namespace Sys2Proof

/-- A register array written out is the vector of its function. -/
theorem tab3_eq_ofFn {α : Type} (f : Fin 3 → α) : tab3 f = Vector.ofFn f := rfl

theorem tab6_eq_ofFn {α : Type} (f : Fin 6 → α) : tab6 f = Vector.ofFn f := rfl

theorem tab16_eq_ofFn {α : Type} (f : Fin 16 → α) : tab16 f = Vector.ofFn f := rfl

@[simp] theorem tab3_getElem {α : Type} (f : Fin 3 → α) (i : Nat) (h : i < 3) : (tab3 f)[i] = f ⟨i, h⟩ := by
  simp [tab3_eq_ofFn]

@[simp] theorem tab6_getElem {α : Type} (f : Fin 6 → α) (i : Nat) (h : i < 6) : (tab6 f)[i] = f ⟨i, h⟩ := by
  simp [tab6_eq_ofFn]

@[simp] theorem tab16_getElem {α : Type} (f : Fin 16 → α) (i : Nat) (h : i < 16) : (tab16 f)[i] = f ⟨i, h⟩ := by
  simp [tab16_eq_ofFn]

/-- Two arrays with the same entries are the same array. -/
theorem tab16_eq_iff {α : Type} (f : Fin 16 → α) (v : Vector α 16) : tab16 f = v ↔ ∀ i : Fin 16, f i = v[i] := by
  constructor
  · rintro rfl i; simp
  · intro h; ext i hi; simpa using h ⟨i, hi⟩

theorem tab6_eq_iff {α : Type} (f : Fin 6 → α) (v : Vector α 6) : tab6 f = v ↔ ∀ i : Fin 6, f i = v[i] := by
  constructor
  · rintro rfl i; simp
  · intro h; ext i hi; simpa using h ⟨i, hi⟩

theorem tab3_eq_iff {α : Type} (f : Fin 3 → α) (v : Vector α 3) : tab3 f = v ↔ ∀ i : Fin 3, f i = v[i] := by
  constructor
  · rintro rfl i; simp
  · intro h; ext i hi; simpa using h ⟨i, hi⟩

end Sys2Proof
end

