-- ==== Sys2Proof/Laws/Ops.lean ====
section
/-! SUPPORT. What the shared operations at the end of a decode can answer (R263, R285, R286): once each, for every mode. -/

namespace Sys2Proof.Machine

/-- The duties depend on the latched request, the buffer and the other instances alone. -/
theorem State.dutiesMet_congr {s t : State} (hx : t.blockX = s.blockX) (hy : t.blockY = s.blockY)
    (hw : t.imageWidth = s.imageWidth) (hh : t.imageHeight = s.imageHeight) (hl : t.destLen = s.destLen)
    (hf : t.inFlight = s.inFlight) : t.dutiesMet = s.dutiesMet := by
  simp only [State.dutiesMet, State.bufferFits, State.footprintFree, State.region, hx, hy, hw, hh, hl, hf]

/-- The state `WriteOutput` leaves (R263). -/
def State.written (s : State) : State := State.complete { s with dest := s.writePixels pixelNumbers s.dest }

/-- `WriteOutput` within the duties. -/
theorem State.writeOutput_eq_next {s : State} (h : s.dutiesMet) : s.writeOutput = .next s.written := by
  simp only [State.dutiesMet, Bool.and_eq_true] at h
  simp [State.writeOutput, State.written, h.1, h.2]

/-- Everything `WriteOutput` can do: write within the duties, or refuse by the duty that is broken. -/
theorem State.writeOutput_cases (s : State) :
    (s.dutiesMet ∧ s.writeOutput = .next s.written) ∨
    (s.bufferFits = false ∧ s.writeOutput = .refused .bufferTooSmall) ∨
    (s.bufferFits ∧ s.footprintFree = false ∧ s.writeOutput = .refused .footprintInUse) := by
  unfold State.writeOutput State.dutiesMet State.written
  cases hb : s.bufferFits <;> cases hf : s.footprintFree <;> simp

theorem State.writeOutput_next {s t : State} (h : s.writeOutput = .next t) : s.dutiesMet ∧ t = s.written := by
  rcases s.writeOutput_cases with ⟨hd, he⟩ | ⟨_, he⟩ | ⟨_, _, he⟩
  · rw [he] at h; cases h; exact ⟨hd, rfl⟩
  · rw [he] at h; cases h
  · rw [he] at h; cases h

theorem State.writeOutput_ne_fault (s : State) (f : Fault) : s.writeOutput ≠ .fault f := by
  rcases s.writeOutput_cases with ⟨_, he⟩ | ⟨_, he⟩ | ⟨_, _, he⟩ <;> simp [he]

@[simp] theorem State.written_seq (s : State) : s.written.seq = .idle := rfl
@[simp] theorem State.written_completion (s : State) : s.written.completion = true := rfl
@[simp] theorem State.written_dest (s : State) : s.written.dest = s.writePixels pixelNumbers s.dest := rfl
@[simp] theorem State.written_px (s : State) : s.written.px = s.px := rfl
@[simp] theorem State.written_bitPos (s : State) : s.written.bitPos = s.bitPos := rfl
@[simp] theorem State.written_mode (s : State) : s.written.mode = s.mode := rfl
@[simp] theorem State.written_desc (s : State) : s.written.desc = s.desc := rfl
@[simp] theorem State.written_partition (s : State) : s.written.partition = s.partition := rfl
@[simp] theorem State.written_rotation (s : State) : s.written.rotation = s.rotation := rfl
@[simp] theorem State.written_idxSel (s : State) : s.written.idxSel = s.idxSel := rfl
@[simp] theorem State.written_epRaw (s : State) : s.written.epRaw = s.epRaw := rfl
@[simp] theorem State.written_pbit (s : State) : s.written.pbit = s.pbit := rfl
@[simp] theorem State.written_sp (s : State) : s.written.sp = s.sp := rfl
@[simp] theorem State.written_ep (s : State) : s.written.ep = s.ep := rfl
@[simp] theorem State.written_idx1 (s : State) : s.written.idx1 = s.idx1 := rfl
@[simp] theorem State.written_idx2 (s : State) : s.written.idx2 = s.idx2 := rfl
@[simp] theorem State.written_subsetOf (s : State) : s.written.subsetOf = s.subsetOf := rfl
@[simp] theorem State.written_anchor (s : State) : s.written.anchor = s.anchor := rfl
@[simp] theorem State.written_requests (s : State) : s.written.requests = s.requests := rfl
@[simp] theorem State.written_blk (s : State) : s.written.blk = s.blk := rfl
@[simp] theorem State.written_blockX (s : State) : s.written.blockX = s.blockX := rfl
@[simp] theorem State.written_blockY (s : State) : s.written.blockY = s.blockY := rfl
@[simp] theorem State.written_imageWidth (s : State) : s.written.imageWidth = s.imageWidth := rfl
@[simp] theorem State.written_imageHeight (s : State) : s.written.imageHeight = s.imageHeight := rfl
@[simp] theorem State.written_destLen (s : State) : s.written.destLen = s.destLen := rfl
@[simp] theorem State.written_inFlight (s : State) : s.written.inFlight = s.inFlight := rfl
@[simp] theorem State.written_resetIn (s : State) : s.written.resetIn = s.resetIn := rfl
@[simp] theorem State.written_freeCount (s : State) : s.written.freeCount = s.freeCount := rfl

/-- The state a valid decode ends in, from its registers just before the blend (R252). -/
def State.decoded (s : State) : State :=
  (s.putCursor Config.blockBits).interpolatePixels.applyRotation.written

theorem State.finishDecode_eq_next {s : State} (h : s.dutiesMet) : s.finishDecode = .next s.decoded :=
  State.writeOutput_eq_next (s := (s.putCursor Config.blockBits).interpolatePixels.applyRotation)
    ((State.dutiesMet_congr rfl rfl rfl rfl rfl rfl).trans h)

/-- Everything the end of a decode can do. -/
theorem State.finishDecode_next {s t : State} (h : s.finishDecode = .next t) : s.dutiesMet ∧ t = s.decoded := by
  obtain ⟨hd, ht⟩ := State.writeOutput_next h
  exact ⟨(State.dutiesMet_congr rfl rfl rfl rfl rfl rfl).symm.trans hd, ht⟩

theorem State.finishDecode_ne_fault (s : State) (f : Fault) : s.finishDecode ≠ .fault f :=
  State.writeOutput_ne_fault _ f

/-- The pixel a decode leaves: the blend of its subset's endpoints, rotated (R226, R227). -/
theorem State.decoded_px (s : State) (i : Fin 16) : (s.decoded).px[i] = rotate s.rotation (s.blendedPixel i) := by
  show ((tab16 fun i => rotate s.rotation ((tab16 fun i => s.blendedPixel i) : Vector Rgba 16)[i]) : Vector Rgba 16)[i] = _
  simp

end Sys2Proof.Machine
end

