-- ==== Sys2Proof/Laws/Sequencer.lean ====
section
/-! SUPPORT. Everything a sequencer transition and a step can do (R250, R251), each once. -/

namespace Sys2Proof.Machine

/-- A state that reads: it goes on with the values at the cursor, moved past their widths, or it faults. -/
theorem State.takeThen_next {ws : List Nat} {g : List Nat → State → State} {s t : State}
    (h : s.takeThen ws g = .next t) :
    ∃ vs, takes s.blk s.bitPos ws = some (vs, s.bitPos + ws.sum) ∧ vs.length = ws.length ∧
      t = g vs (s.putCursor (s.bitPos + ws.sum)) := by
  unfold State.takeThen at h
  split at h
  · cases h
  · rename_i vs pos hp
    cases h
    obtain ⟨rfl, hl⟩ := takes_cursor hp
    exact ⟨vs, hp, hl, rfl⟩

/-- A state that reads inside the block does not fault. -/
theorem State.takeThen_eq_next {ws : List Nat} (g : List Nat → State → State) {s : State} (hw : ∀ n ∈ ws, n ≤ 32)
    (hp : s.bitPos + ws.sum ≤ 128) :
    ∃ vs, takes s.blk s.bitPos ws = some (vs, s.bitPos + ws.sum) ∧
      s.takeThen ws g = .next (g vs (s.putCursor (s.bitPos + ws.sum))) := by
  obtain ⟨vs, hvs⟩ := takes_isSome s.blk ws s.bitPos hw hp
  exact ⟨vs, hvs, by simp [State.takeThen, hvs]⟩

theorem State.takeThen_ne_refused {ws : List Nat} {g : List Nat → State → State} {s : State} (r : Refusal) :
    s.takeThen ws g ≠ .refused r := by
  unfold State.takeThen
  split <;> simp

/-- A request of 16 bytes is fetched as the instruction of its block; any other is refused under P1 (R284). -/
theorem fetch_eq (r : Request) :
    fetch r = if r.blockBytes.length = 16 then .ok (decodeBlock (blockOfBytes r.blockBytes))
      else .error .blockNotSixteenBytes := by
  unfold fetch decode
  simp only [Config.blockBytes]
  rcases Nat.lt_trichotomy r.blockBytes.length 16 with h | h | h
  · simp [h, Nat.ne_of_lt h]
  · simp [h, List.drop_eq_nil_of_le (Nat.le_of_eq h), List.take_of_length_le (Nat.le_of_eq h)]
  · have hd : r.blockBytes.drop 16 ≠ [] := by simp [List.drop_eq_nil_iff]; omega
    obtain ⟨c, l, hc⟩ := List.exists_cons_of_ne_nil hd
    simp [Nat.not_lt.mpr (Nat.le_of_lt h), Nat.ne_of_gt h, hc]

/-- A step from Idle with a 16-byte request presented runs its instruction on the accepted state (R251). -/
theorem step_of_request {s : State} {r : Request} {rest : List Request} (hi : s.seq = .idle) (hr : s.resetIn = false)
    (hq : s.requests = r :: rest) (hb : r.blockBytes.length = 16) :
    step s = exec (decodeBlock (blockOfBytes r.blockBytes)) (s.accept r rest) := by
  simp [step, State.transaction, hi, hr, hq, fetch_eq, hb]

/-- A step inside a decode is one transition of the sequencer. -/
theorem step_of_busy {s : State} (hb : s.seq ≠ .idle) (hr : s.resetIn = false) : step s = s.tick := by
  unfold step
  simp only [hr, Bool.false_eq_true, if_false]

/-- A step with reset asked for is the reset. -/
theorem step_of_reset {s : State} (hr : s.resetIn = true) : step s = s.resetUnit := by simp [step, hr]

end Sys2Proof.Machine
end

