-- ==== Sys2Proof/Laws/System.lean ====
section
/-! SUPPORT. Everything reset can do to the registers and the buffer (R301), and everything one move of an instance can do
to a system (R294), each once. -/

namespace Sys2Proof.Machine

/-! ## The mix of prior and decoded bytes -/

theorem mixBytes_wf (pick : Nat → Bool) (decoded : Memory) (offsets : List Nat) {prior : Memory} (h : prior.wf) :
    (mixBytes pick decoded offsets prior).wf := by
  unfold mixBytes
  induction offsets generalizing prior with
  | nil => exact h
  | cons x offsets ih =>
    refine ih ?_
    dsimp only
    split
    · exact Memory.write_wf _ _ h
    · exact h

/-- What a byte of the mix reads as: the decoded byte where it is chosen and known, else the prior one. -/
theorem read_mixBytes (pick : Nat → Bool) (decoded : Memory) (offsets : List Nat) (prior : Memory) (a : Nat) :
    (mixBytes pick decoded offsets prior).read a =
      if a ∈ offsets ∧ pick a = true ∧ (decoded.read a).isSome then decoded.read a else prior.read a := by
  unfold mixBytes
  induction offsets generalizing prior with
  | nil => simp
  | cons x offsets ih =>
    rw [List.foldl_cons, ih]
    by_cases hx : a = x
    · subst hx
      cases hp : pick a <;> cases hd : decoded.read a <;> simp
    · have hne : ∀ b, (prior.write x b).read a = prior.read a := fun b => Memory.read_write_other _ b hx
      simp only [List.mem_cons, hx, false_or]
      congr 1
      split <;> simp [hne]

/-- The offsets of a footprint are its bytes (R264). -/
theorem State.mem_footprint (s : State) (a : Nat) : a ∈ s.footprint ↔ s.inFootprint a = true := by
  simp only [State.footprint, State.inFootprint, List.mem_flatMap, List.any_eq_true, Bool.and_eq_true, decide_eq_true_eq]
  refine exists_congr fun i => and_congr_right fun _ => ?_
  by_cases hb : s.inBounds i = true
  · simp [hb]; omega
  · simp [hb]

/-! ## Reset -/

/-- Everything reset can do: the registers of reset, with some buffer; nothing changes in Idle, and only known decoded
bytes of the footprint appear otherwise. -/
theorem State.resetUnit_next {s t : State} (h : s.resetUnit = .next t) :
    (s.seq = .idle ∧ t = s.resetRegisters s.dest) ∨
    (s.seq ≠ .idle ∧ ∃ d, s.runToIdle = .next d ∧
      t = s.resetRegisters (mixBytes (Config.freeResetMix s.freeCount) d.dest s.footprint s.dest)) := by
  unfold State.resetUnit at h
  split at h
  · rename_i hi; cases h; exact .inl ⟨hi, rfl⟩
  · rename_i hi
    split at h
    · rename_i d hd; cases h; exact .inr ⟨hi, d, hd, rfl⟩
    · cases h
    · cases h

theorem State.resetOrTick_of_reset {s : State} (h : s.resetIn = true) : s.resetOrTick = s.resetUnit := by
  simp [State.resetOrTick, h]

theorem State.resetOrTick_of_no_reset {s : State} (h : s.resetIn = false) : s.resetOrTick = s.tick := by
  simp [State.resetOrTick, h]

/-! ## One move of a system -/

theorem System.tick_of_none {y : System} {k : Nat} (h : y.units[k]? = none) : y.tick k = .next y := by
  simp [System.tick, h]

/-- A move of an instance is its own move on the shared buffer, and nothing else. -/
theorem System.tick_of_next {y : System} {k : Nat} {u t : State} (hu : y.units[k]? = some u)
    (ht : (y.attach k u).resetOrTick = .next t) :
    y.tick k = .next { y with units := y.units.set k t.detach, dest := t.dest } := by
  simp [System.tick, hu, ht]

/-- Everything a move of an instance can do, when it answers next. -/
theorem System.tick_next {y z : System} {k : Nat} (h : y.tick k = .next z) :
    (y.units[k]? = none ∧ z = y) ∨
    ∃ u t, y.units[k]? = some u ∧ (y.attach k u).resetOrTick = .next t ∧
      z = { y with units := y.units.set k t.detach, dest := t.dest } := by
  unfold System.tick at h
  split at h
  · rename_i hu; cases h; exact .inl ⟨hu, rfl⟩
  · rename_i u hu
    split at h
    · rename_i t ht; cases h; exact .inr ⟨u, t, hu, ht, rfl⟩
    · cases h
    · cases h

@[simp] theorem State.detach_seq (s : State) : s.detach.seq = s.seq := rfl
@[simp] theorem State.detach_completion (s : State) : s.detach.completion = s.completion := rfl
@[simp] theorem State.detach_resetIn (s : State) : s.detach.resetIn = s.resetIn := rfl
@[simp] theorem State.detach_region (s : State) : s.detach.region = s.region := rfl
@[simp] theorem System.attach_seq (y : System) (k : Nat) (u : State) : (y.attach k u).seq = u.seq := rfl
@[simp] theorem System.attach_resetIn (y : System) (k : Nat) (u : State) : (y.attach k u).resetIn = u.resetIn := rfl
@[simp] theorem System.attach_region (y : System) (k : Nat) (u : State) : (y.attach k u).region = u.region := rfl
@[simp] theorem System.attach_dest (y : System) (k : Nat) (u : State) : (y.attach k u).dest = y.dest := rfl
@[simp] theorem System.attach_destLen (y : System) (k : Nat) (u : State) : (y.attach k u).destLen = y.destLen := rfl
@[simp] theorem System.attach_inFlight (y : System) (k : Nat) (u : State) :
    (y.attach k u).inFlight = y.othersInFlight k := rfl

end Sys2Proof.Machine
end

