-- ==== Sys2Proof/Laws/HostPort.lean ====
section
/-! SUPPORT. What a look at the buffer can show (R89, R306), and which instances it depends on, each once. -/

namespace Sys2Proof.Machine

@[simp] theorem State.region_blockX (s : State) : s.region.blockX = s.blockX := rfl
@[simp] theorem State.region_blockY (s : State) : s.region.blockY = s.blockY := rfl
@[simp] theorem State.region_imageWidth (s : State) : s.region.imageWidth = s.imageWidth := rfl
@[simp] theorem State.region_imageHeight (s : State) : s.region.imageHeight = s.imageHeight := rfl

/-- A unit's footprint is what its region covers (R264). -/
theorem State.region_covers (s : State) (a : Nat) : s.region.covers a = s.inFootprint a := by
  simp only [Region.covers, Region.offsets, List.any_map, List.any_filter]
  exact congrArg (List.any pixelNumbers) (funext fun _ => (Bool.and_assoc ..).symm)

/-- Everything a look at a decode with a meaning can show: the prior or the decoded byte. -/
theorem State.decodeSight_of_next {s d : State} (h : s.runToIdle = .next d) (k a : Nat) :
    s.decodeSight k a = if Config.freeSight k a then d.dest.read a else s.dest.read a := by
  simp [State.decodeSight, h]

theorem State.visible_of_own {s : State} {a : Nat} (hs : s.seq ≠ .idle) (ha : s.inFootprint a = true) (k : Nat) :
    s.visible k a = s.decodeSight k a := by simp [State.visible, hs, ha]

/-- The instances a byte depends on are the busy ones with it in their footprint. -/
theorem System.mem_busyAt {y : System} {a j : Nat} {u : State} :
    (u, j) ∈ y.busyAt a ↔ y.units[j]? = some u ∧ u.seq ≠ .idle ∧ u.inFootprint a = true := by
  simp [System.busyAt, List.mem_filter, List.mem_zipIdx_iff_getElem?]

theorem System.busyAt_nodup (y : System) (a : Nat) : (y.busyAt a).Nodup := by
  refine List.Nodup.filter _ (List.Nodup.of_map Prod.snd ?_)
  rw [List.zipIdx_map_snd]
  exact List.nodup_range'

/-- Where one busy instance alone has the byte, a look is a look at its decode. -/
theorem System.busyAt_singleton {y : System} {a j : Nat} {u : State} (h : (u, j) ∈ y.busyAt a)
    (h1 : ∀ v i, (v, i) ∈ y.busyAt a → i = j) : y.busyAt a = [(u, j)] := by
  have hall : ∀ x ∈ y.busyAt a, x = (u, j) := fun ⟨v, i⟩ hx => by
    have hi := h1 v i hx
    subst hi
    have := (System.mem_busyAt.mp hx).1.symm.trans (System.mem_busyAt.mp h).1
    simpa using this
  have hd := y.busyAt_nodup a
  match hb : y.busyAt a with
  | [] => simp [hb] at h
  | [x] => rw [hall x (by simp [hb])]
  | x :: x' :: l =>
    rw [hb] at hd
    have hx := hall x (by simp [hb])
    have hx' := hall x' (by simp [hb])
    simp [hx, hx'] at hd

end Sys2Proof.Machine
end

