-- ==== Sys2Proof/Laws/Rom.lean ====
section
/-! SUPPORT. Facts of the read-only tables (R58, R162, R164) that the layouts rest on, each checked over all 64 rows. -/

namespace Sys2Proof.Rom

/-- Every table has its 64 rows (R50). -/
theorem rows_64 : p2Mask.length = 64 ∧ p3Packed.length = 64 ∧ anchor2Row.length = 64 ∧ anchor3ARow.length = 64 ∧
    anchor3BRow.length = 64 := by decide

theorem bitVec6_forall {P : BitVec 6 → Prop} (h : ∀ i : Fin 64, P (BitVec.ofFin i)) : ∀ p, P p := fun p => h p.toFin

/-- The anchors of a 2-subset partition are two pixels (R162). -/
theorem anchor2_ne_zero : ∀ p, anchor2 p ≠ 0 := bitVec6_forall (by decide)

/-- The anchors of a 3-subset partition are three pixels (R162). -/
theorem anchor3_distinct : ∀ p, anchor3A p ≠ 0 ∧ anchor3B p ≠ 0 ∧ anchor3A p ≠ anchor3B p := bitVec6_forall (by decide)

/-- An index region of full width w is one bit short for each anchor (R104, R107). -/
theorem idxWidth_sum (anchor : Fin 16 → Bool) {w : Nat} (hw : 1 ≤ w) (l : List (Fin 16)) :
    (l.map (idxWidth anchor w)).sum + l.countP anchor = l.length * w := by
  induction l with
  | nil => simp
  | cons i l ih =>
    simp only [List.map_cons, List.sum_cons, List.length_cons, Nat.succ_mul, List.countP_cons, idxWidth]
    cases anchor i <;> simp <;> omega

/-- A set of ns subsets has ns anchors (R162). -/
theorem countP_isAnchor (ns : Subsets) : ∀ p, (List.finRange 16).countP (isAnchor ns p) = ns.count := by
  cases ns
  · exact bitVec6_forall (by decide +kernel)
  · exact bitVec6_forall (by decide +kernel)
  · exact bitVec6_forall (by decide +kernel)

/-- The width of the primary index region (R104). -/
theorem idxWidth_sum_isAnchor (ns : Subsets) (p : BitVec 6) {w : Nat} (hw : 1 ≤ w) :
    ((List.finRange 16).map (idxWidth (isAnchor ns p) w)).sum = 16 * w - ns.count := by
  have := idxWidth_sum (isAnchor ns p) hw (List.finRange 16)
  rw [countP_isAnchor, List.length_finRange] at this
  omega

/-- The width of the secondary index region (R104). -/
theorem idxWidth_sum_2nd {w : Nat} (hw : 1 ≤ w) :
    ((List.finRange 16).map (idxWidth isAnchor2nd w)).sum = 16 * w - 1 := by
  have := idxWidth_sum isAnchor2nd hw (List.finRange 16)
  rw [show (List.finRange 16).countP isAnchor2nd = 1 by decide, List.length_finRange] at this
  omega

end Sys2Proof.Rom
end

