-- ==== Sys2Proof/Laws/PerInstr.lean ====
section
/-! SUPPORT. Statements made of each instruction as syntax. BitBudget (R104): the fields of every block add up to 128
bits, whatever the operands. -/

namespace Sys2Proof

theorem widthsSum_append (a b : List (Nat × Nat)) : widthsSum (a ++ b) = widthsSum a + widthsSum b := by
  simp [widthsSum]

theorem sum_replicate_map {α : Type} (l : List α) (w : Nat) : (l.map fun _ => w).sum = l.length * w := by
  induction l with
  | nil => simp
  | cons _ l ih => simp [Nat.succ_mul]; omega

theorem widthsSum_vectorSegs {w k : Nat} (v : Vector (BitVec w) k) : widthsSum (vectorSegs v) = k * w := by
  simp only [widthsSum, vectorSegs, List.map_map]
  exact (sum_replicate_map _ w).trans (by rw [List.length_finRange])

theorem widthsSum_colourSegs {w k : Nat} (c : Vector (Colour w) k) : widthsSum (colourSegs c) = 3 * (k * w) := by
  have h : ∀ f : Fin k → Nat, widthsSum ((List.finRange k).map fun e => (w, f e)) = k * w := fun f => by
    simp only [widthsSum, List.map_map]
    exact (sum_replicate_map _ w).trans (by rw [List.length_finRange])
  simp only [colourSegs, widthsSum_append, h]
  omega

theorem widthsSum_idxSegs {w : Nat} (anchor : Fin 16 → Bool) (ix : Vector (BitVec w) 16) :
    widthsSum (idxSegs anchor ix) = ((List.finRange 16).map (idxWidth anchor w)).sum := by
  simp only [widthsSum, idxSegs, List.map_map]
  rfl

/-- The widths of the pieces a layout is made of (R103). -/
theorem widthsSum_prefixSeg (m : Fin 8) : widthsSum (prefixSeg m) = m.val + 1 := by simp [widthsSum, prefixSeg]

theorem widthsSum_fieldSeg {w : Nat} (v : BitVec w) : widthsSum (fieldSeg v) = w := by simp [widthsSum, fieldSeg]

/-- BitBudget: "For each mode the fields add up to 128 bits" (R104). -/
def Laws.BitBudget.Statement (i : Instr) : Prop := widthsSum i.segments = 128

namespace Laws.BitBudget

theorem mode0 (p : BitVec 4) (c : Vector (Colour 4) 6) (pb : Vector (BitVec 1) 6) (ix : Vector (BitVec 3) 16) :
    Statement (.mode0 p c pb ix) := by
  simp only [Statement, Instr.segments, widthsSum_append, widthsSum_prefixSeg, widthsSum_fieldSeg, widthsSum_colourSegs,
    widthsSum_vectorSegs, widthsSum_idxSegs, Rom.idxWidth_sum_isAnchor, Nat.reduceLeDiff, Subsets.count]
  decide

theorem mode1 (p : BitVec 6) (c : Vector (Colour 6) 4) (sp : Vector (BitVec 1) 2) (ix : Vector (BitVec 3) 16) :
    Statement (.mode1 p c sp ix) := by
  simp only [Statement, Instr.segments, widthsSum_append, widthsSum_prefixSeg, widthsSum_fieldSeg, widthsSum_colourSegs,
    widthsSum_vectorSegs, widthsSum_idxSegs, Rom.idxWidth_sum_isAnchor, Nat.reduceLeDiff, Subsets.count]
  decide

theorem mode2 (p : BitVec 6) (c : Vector (Colour 5) 6) (ix : Vector (BitVec 2) 16) : Statement (.mode2 p c ix) := by
  simp only [Statement, Instr.segments, widthsSum_append, widthsSum_prefixSeg, widthsSum_fieldSeg, widthsSum_colourSegs,
    widthsSum_idxSegs, Rom.idxWidth_sum_isAnchor, Nat.reduceLeDiff, Subsets.count]
  decide

theorem mode3 (p : BitVec 6) (c : Vector (Colour 7) 4) (pb : Vector (BitVec 1) 4) (ix : Vector (BitVec 2) 16) :
    Statement (.mode3 p c pb ix) := by
  simp only [Statement, Instr.segments, widthsSum_append, widthsSum_prefixSeg, widthsSum_fieldSeg, widthsSum_colourSegs,
    widthsSum_vectorSegs, widthsSum_idxSegs, Rom.idxWidth_sum_isAnchor, Nat.reduceLeDiff, Subsets.count]
  decide

theorem mode4 (r : BitVec 2) (sel : BitVec 1) (c : Vector (Colour 5) 2) (a : Vector (BitVec 6) 2)
    (ix : Vector (BitVec 2) 16) (jx : Vector (BitVec 3) 16) : Statement (.mode4 r sel c a ix jx) := by
  simp only [Statement, Instr.segments, widthsSum_append, widthsSum_prefixSeg, widthsSum_fieldSeg, widthsSum_colourSegs,
    widthsSum_vectorSegs, widthsSum_idxSegs, Rom.idxWidth_sum_isAnchor, Rom.idxWidth_sum_2nd, Nat.reduceLeDiff,
    Subsets.count]
  decide

theorem mode5 (r : BitVec 2) (c : Vector (Colour 7) 2) (a : Vector (BitVec 8) 2) (ix : Vector (BitVec 2) 16)
    (jx : Vector (BitVec 2) 16) : Statement (.mode5 r c a ix jx) := by
  simp only [Statement, Instr.segments, widthsSum_append, widthsSum_prefixSeg, widthsSum_fieldSeg, widthsSum_colourSegs,
    widthsSum_vectorSegs, widthsSum_idxSegs, Rom.idxWidth_sum_isAnchor, Rom.idxWidth_sum_2nd, Nat.reduceLeDiff,
    Subsets.count]
  decide

theorem mode6 (c : Vector (Colour 7) 2) (a : Vector (BitVec 7) 2) (pb : Vector (BitVec 1) 2)
    (ix : Vector (BitVec 4) 16) : Statement (.mode6 c a pb ix) := by
  simp only [Statement, Instr.segments, widthsSum_append, widthsSum_prefixSeg, widthsSum_colourSegs,
    widthsSum_vectorSegs, widthsSum_idxSegs, Rom.idxWidth_sum_isAnchor, Nat.reduceLeDiff, Subsets.count]
  decide

theorem mode7 (p : BitVec 6) (c : Vector (Colour 5) 4) (a : Vector (BitVec 5) 4) (pb : Vector (BitVec 1) 4)
    (ix : Vector (BitVec 2) 16) : Statement (.mode7 p c a pb ix) := by
  simp only [Statement, Instr.segments, widthsSum_append, widthsSum_prefixSeg, widthsSum_fieldSeg, widthsSum_colourSegs,
    widthsSum_vectorSegs, widthsSum_idxSegs, Rom.idxWidth_sum_isAnchor, Nat.reduceLeDiff, Subsets.count]
  decide

theorem reserved (u : BitVec 120) : Statement (.reserved u) := rfl

end Laws.BitBudget

end Sys2Proof
end

