-- ==== Sys2Proof/Tests/Slice0.lean ====
section
/-! SUPPORT. The model's own tests. Expected values are those of spec/ (its layout tables, the examples of its rules and
its test vectors), never the model's answers. The witnesses at the end show that the hypotheses of the statements can
be met together. -/

namespace Sys2Proof.Tests

open Sys2Proof.Machine

/-! ## Helpers -/

/-- Bytes from numbers. -/
def bytes (l : List Nat) : List Byte := l.map (BitVec.ofNat 8)

/-- The next state, if there is one. -/
def nxt {σ : Type} : Host.Outcome σ Fault Refusal → Option σ
  | .next t => some t
  | _ => none

/-- The refusal, if it is one. -/
def ref {σ : Type} : Host.Outcome σ Fault Refusal → Option Refusal
  | .refused r => some r
  | _ => none

/-- An Idle unit with one block presented for block (0, 0) of a w by h image, in a buffer of exactly its size. -/
def start (w h : Nat) (b : List Byte) : State :=
  { State.reset with requests := [⟨b, 0, 0, w, h⟩], destLen := w * h * 4 }

/-- Pixels of the step from `start` on an image of no pixels. -/
def pixels (b : List Byte) (is : List (Fin 16)) : Option (List Rgba) :=
  (nxt (step (start 0 0 b))).map fun t => is.map fun i => t.px[i]

/-- A unit k transitions into the decode of a block of a 1 by 1 image. -/
def inside (k : Nat) (b : List Byte) : Option State :=
  ((start 1 1 b).accept ⟨b, 0, 0, 1, 1⟩ [] |> fun s => nxt (s.ticks k))

/-- The example block of MODE0 (R253, L2-DECODE). -/
def block0 : List Byte := bytes [0xE1, 0x1F, 0x00, 0x00, 0xE0, 0x1F, 0x00, 0x00, 0xE0, 0x1F, 0x00, 0x00, 0x00, 0x00, 0x00, 0x00]

/-- The example block of MODE1 (R254, L2-DECODE). -/
def block1 : List Byte := bytes [0x46, 0xC0, 0xFF, 0x03, 0xC0, 0x0F, 0x00, 0xC0, 0x0F, 0xFC, 0x11, 0xC7, 0xFA, 0x77, 0x39, 0x05]

/-- The example block of MODE2 (R255, L2-DECODE). -/
def block2 : List Byte := bytes [0x2C, 0x3E, 0x00, 0x5F, 0x15, 0xF0, 0xC1, 0xA7, 0x0F, 0x80, 0x0F, 0x7C, 0x96, 0xC9, 0xC9, 0xC9]

/-- The example block of MODE3 (R256, L2-DECODE). -/
def block3 : List Byte := bytes [0x18, 0xFC, 0x01, 0x40, 0xC0, 0x1F, 0x00, 0x20, 0xFF, 0x01, 0x00, 0x40, 0x76, 0x72, 0x72, 0x72]

/-- The example block of MODE4 (R257, L2-DECODE). -/
def block4 : List Byte := bytes [0xB0, 0xE0, 0x7F, 0x00, 0x21, 0xF0, 0xDF, 0xDA, 0xDA, 0xDA, 0xBE, 0xCB, 0x29, 0x88, 0xC6, 0xFA]

/-- The example block of MODE5 (R258, L2-DECODE). -/
def block5 : List Byte := bytes [0xA0, 0x7F, 0x00, 0xE0, 0x0F, 0x04, 0x02, 0xFC, 0xCB, 0xC9, 0xC9, 0xC9, 0x4F, 0x4D, 0x4D, 0x4D]

/-- The example block of MODE6 (R259, L2-DECODE). -/
def block6 : List Byte := bytes [0x40, 0xC0, 0x1F, 0xF0, 0x07, 0xFC, 0x01, 0x7F, 0x11, 0x32, 0x54, 0x76, 0x98, 0xBA, 0xDC, 0xFE]

/-- The example block of MODE7 (R260, L2-DECODE). -/
def block7 : List Byte := bytes [0x80, 0xC2, 0x07, 0x1F, 0x7C, 0x00, 0xC0, 0x07, 0xE0, 0x7F, 0xF0, 0x7E, 0x3A, 0x39, 0x39, 0x39]

/-- A Reserved block (R261). -/
def blockR : List Byte := bytes [0, 255, 255, 255, 255, 255, 255, 255, 255, 255, 255, 255, 255, 255, 255, 255]

/-! ## WellFormed: an ill-formed term for each check (R123, R201) -/

theorem test_mode0_anchor_high_refused :
    (Instr.mode0 0 #v[⟨0, 0, 0⟩, ⟨0, 0, 0⟩, ⟨0, 0, 0⟩, ⟨0, 0, 0⟩, ⟨0, 0, 0⟩, ⟨0, 0, 0⟩] #v[0, 0, 0, 0, 0, 0] #v[0, 0, 0, 4, 0, 0, 0, 0, 0, 0, 0, 0, 0, 0, 0, 0]).wellFormed = false := by decide

theorem test_mode0_same_indices_other_partition_accepted :
    (Instr.mode0 13 #v[⟨0, 0, 0⟩, ⟨0, 0, 0⟩, ⟨0, 0, 0⟩, ⟨0, 0, 0⟩, ⟨0, 0, 0⟩, ⟨0, 0, 0⟩] #v[0, 0, 0, 0, 0, 0] #v[0, 0, 0, 4, 0, 0, 0, 0, 0, 0, 0, 0, 0, 0, 0, 0]).wellFormed = true := by decide

theorem test_mode1_anchor_high_refused :
    (Instr.mode1 17 #v[⟨0, 0, 0⟩, ⟨0, 0, 0⟩, ⟨0, 0, 0⟩, ⟨0, 0, 0⟩] #v[0, 0] #v[0, 0, 4, 0, 0, 0, 0, 0, 0, 0, 0, 0, 0, 0, 0, 0]).wellFormed = false := by decide

theorem test_mode2_anchor_high_refused :
    (Instr.mode2 5 #v[⟨0, 0, 0⟩, ⟨0, 0, 0⟩, ⟨0, 0, 0⟩, ⟨0, 0, 0⟩, ⟨0, 0, 0⟩, ⟨0, 0, 0⟩] #v[0, 0, 0, 0, 0, 0, 0, 0, 0, 0, 0, 0, 0, 0, 0, 2]).wellFormed = false := by decide

theorem test_mode3_anchor_high_refused :
    (Instr.mode3 1 #v[⟨0, 0, 0⟩, ⟨0, 0, 0⟩, ⟨0, 0, 0⟩, ⟨0, 0, 0⟩] #v[0, 0, 0, 0] #v[2, 0, 0, 0, 0, 0, 0, 0, 0, 0, 0, 0, 0, 0, 0, 0]).wellFormed = false := by decide

theorem test_mode4_primary_anchor_high_refused :
    (Instr.mode4 0 0 #v[⟨0, 0, 0⟩, ⟨0, 0, 0⟩] #v[0, 0] #v[2, 0, 0, 0, 0, 0, 0, 0, 0, 0, 0, 0, 0, 0, 0, 0] #v[0, 0, 0, 0, 0, 0, 0, 0, 0, 0, 0, 0, 0, 0, 0, 0]).wellFormed = false := by decide

theorem test_mode4_secondary_anchor_high_refused :
    (Instr.mode4 0 0 #v[⟨0, 0, 0⟩, ⟨0, 0, 0⟩] #v[0, 0] #v[0, 0, 0, 0, 0, 0, 0, 0, 0, 0, 0, 0, 0, 0, 0, 0] #v[4, 0, 0, 0, 0, 0, 0, 0, 0, 0, 0, 0, 0, 0, 0, 0]).wellFormed = false := by decide

theorem test_mode5_primary_anchor_high_refused :
    (Instr.mode5 0 #v[⟨0, 0, 0⟩, ⟨0, 0, 0⟩] #v[0, 0] #v[3, 0, 0, 0, 0, 0, 0, 0, 0, 0, 0, 0, 0, 0, 0, 0] #v[0, 0, 0, 0, 0, 0, 0, 0, 0, 0, 0, 0, 0, 0, 0, 0]).wellFormed = false := by decide

theorem test_mode5_secondary_anchor_high_refused :
    (Instr.mode5 0 #v[⟨0, 0, 0⟩, ⟨0, 0, 0⟩] #v[0, 0] #v[0, 0, 0, 0, 0, 0, 0, 0, 0, 0, 0, 0, 0, 0, 0, 0] #v[2, 0, 0, 0, 0, 0, 0, 0, 0, 0, 0, 0, 0, 0, 0, 0]).wellFormed = false := by decide

theorem test_mode6_anchor_high_refused :
    (Instr.mode6 #v[⟨0, 0, 0⟩, ⟨0, 0, 0⟩] #v[0, 0] #v[0, 0] #v[8, 0, 0, 0, 0, 0, 0, 0, 0, 0, 0, 0, 0, 0, 0, 0]).wellFormed = false := by decide

theorem test_mode7_anchor_high_refused :
    (Instr.mode7 34 #v[⟨0, 0, 0⟩, ⟨0, 0, 0⟩, ⟨0, 0, 0⟩, ⟨0, 0, 0⟩] #v[0, 0, 0, 0] #v[0, 0, 0, 0] #v[0, 0, 0, 0, 0, 0, 2, 0, 0, 0, 0, 0, 0, 0, 0, 0]).wellFormed = false := by decide

/-! ## Decoding: the blocks of L2-DECODE are the instructions of their field forms, and encode back -/

/-- The field form of MODE0's example. -/
def instr0 : Instr :=
    .mode0 0 #v[⟨15, 0, 0⟩, ⟨15, 0, 0⟩, ⟨0, 15, 0⟩, ⟨0, 15, 0⟩, ⟨0, 0, 15⟩, ⟨0, 0, 15⟩] #v[0, 0, 0, 0, 0, 0] #v[0, 0, 0, 0, 0, 0, 0, 0, 0, 0, 0, 0, 0, 0, 0, 0]

theorem test_block0_decodes : decodeBlock (blockOfBytes block0) = instr0 := by decide

theorem test_instr0_encodes : encode instr0 = block0 := by decide

/-- The field form of MODE1's example. -/
def instr1 : Instr :=
    .mode1 17 #v[⟨0, 0, 0⟩, ⟨63, 63, 63⟩, ⟨63, 0, 0⟩, ⟨0, 0, 63⟩] #v[1, 0]
      #v[0, 1, 2, 3, 4, 5, 6, 7, 7, 6, 5, 4, 3, 2, 1, 0]

theorem test_block1_decodes : decodeBlock (blockOfBytes block1) = instr1 := by decide

theorem test_instr1_encodes : encode instr1 = block1 := by decide

/-- The field form of MODE2's example. -/
def instr2 : Instr :=
    .mode2 5 #v[⟨31, 0, 0⟩, ⟨0, 31, 0⟩, ⟨0, 0, 31⟩, ⟨31, 31, 0⟩, ⟨10, 20, 30⟩, ⟨5, 15, 25⟩]
      #v[0, 1, 2, 1, 0, 1, 2, 3, 0, 1, 2, 3, 0, 1, 2, 1]

theorem test_block2_decodes : decodeBlock (blockOfBytes block2) = instr2 := by decide

theorem test_instr2_encodes : encode instr2 = block2 := by decide

/-- The field form of MODE3's example. -/
def instr3 : Instr :=
    .mode3 1 #v[⟨127, 127, 127⟩, ⟨0, 0, 0⟩, ⟨64, 0, 0⟩, ⟨0, 100, 0⟩] #v[1, 0, 0, 1]
      #v[1, 2, 3, 0, 1, 2, 3, 0, 1, 2, 3, 0, 1, 2, 3, 0]

theorem test_block3_decodes : decodeBlock (blockOfBytes block3) = instr3 := by decide

theorem test_instr3_encodes : encode instr3 = block3 := by decide

/-- The field form of MODE4's example. -/
def instr4 : Instr :=
    .mode4 1 1 #v[⟨0, 31, 16⟩, ⟨31, 0, 16⟩] #v[0, 63] #v[1, 3, 2, 1, 1, 3, 2, 1, 1, 3, 2, 1, 1, 3, 2, 1]
      #v[3, 7, 6, 5, 4, 3, 2, 1, 0, 1, 2, 3, 4, 5, 6, 7]

theorem test_block4_decodes : decodeBlock (blockOfBytes block4) = instr4 := by decide

theorem test_instr4_encodes : encode instr4 = block4 := by decide

/-- The field form of MODE5's example. -/
def instr5 : Instr :=
    .mode5 2 #v[⟨127, 0, 64⟩, ⟨0, 127, 64⟩] #v[0, 255] #v[0, 1, 2, 3, 0, 1, 2, 3, 0, 1, 2, 3, 0, 1, 2, 3]
      #v[1, 3, 0, 1, 1, 3, 0, 1, 1, 3, 0, 1, 1, 3, 0, 1]

theorem test_block5_decodes : decodeBlock (blockOfBytes block5) = instr5 := by decide

theorem test_instr5_encodes : encode instr5 = block5 := by decide

/-- The field form of MODE6's example. -/
def instr6 : Instr :=
    .mode6 #v[⟨0, 0, 0⟩, ⟨127, 127, 127⟩] #v[0, 127] #v[0, 1] #v[0, 1, 2, 3, 4, 5, 6, 7, 8, 9, 10, 11, 12, 13, 14, 15]

theorem test_block6_decodes : decodeBlock (blockOfBytes block6) = instr6 := by decide

theorem test_instr6_encodes : encode instr6 = block6 := by decide

/-- The field form of MODE7's example. -/
def instr7 : Instr :=
    .mode7 2 #v[⟨31, 31, 31⟩, ⟨0, 0, 0⟩, ⟨31, 0, 0⟩, ⟨0, 0, 31⟩] #v[31, 0, 15, 31] #v[1, 0, 0, 1]
      #v[0, 3, 1, 2, 0, 3, 1, 2, 0, 3, 1, 2, 0, 3, 1, 0]

theorem test_block7_decodes : decodeBlock (blockOfBytes block7) = instr7 := by decide

theorem test_instr7_encodes : encode instr7 = block7 := by decide

theorem test_reserved_decodes : (decodeBlock (blockOfBytes blockR)).mode = .reserved := by decide

theorem test_short_block_refused : decode (bytes [1, 2, 3]) = .error .shortBlock := by decide

/-- Byte 0 = 0xFF is mode 0, 0x24 mode 2, 0x80 mode 7, 0x00 Reserved (L2-MODE). -/
theorem test_detect_examples :
    [0xFF, 0x24, 0x80, 0x00, 0xFE, 0x60].map (fun n => detect (BitVec.ofNat 128 n)) =
      [.valid 0, .valid 2, .valid 7, .reserved, .valid 1, .valid 5] := by decide

/-! ## The layouts R110 to R117: the low bit of every field, as the layout tables give it -/

theorem test_layout_mode0 :
    (List.range 3).map (fun c => (List.range 6).map (colourPos 0 c)) =
      [[5, 9, 13, 17, 21, 25], [29, 33, 37, 41, 45, 49], [53, 57, 61, 65, 69, 73]] ∧
    (List.range 6).map (pbitBase 0 + ·) = [77, 78, 79, 80, 81, 82] ∧
    idx1Base 0 = 83 := by decide

theorem test_layout_mode1 :
    (List.range 3).map (fun c => (List.range 4).map (colourPos 1 c)) =
      [[8, 14, 20, 26], [32, 38, 44, 50], [56, 62, 68, 74]] ∧
    (List.range 2).map (pbitBase 1 + ·) = [80, 81] ∧
    idx1Base 1 = 82 := by decide

theorem test_layout_mode2 :
    (List.range 3).map (fun c => (List.range 6).map (colourPos 2 c)) =
      [[9, 14, 19, 24, 29, 34], [39, 44, 49, 54, 59, 64], [69, 74, 79, 84, 89, 94]] ∧
    idx1Base 2 = 99 := by decide

theorem test_layout_mode3 :
    (List.range 3).map (fun c => (List.range 4).map (colourPos 3 c)) =
      [[10, 17, 24, 31], [38, 45, 52, 59], [66, 73, 80, 87]] ∧
    (List.range 4).map (pbitBase 3 + ·) = [94, 95, 96, 97] ∧
    idx1Base 3 = 98 := by decide

theorem test_layout_mode4 :
    (List.range 3).map (fun c => (List.range 2).map (colourPos 4 c)) =
      [[8, 13], [18, 23], [28, 33]] ∧
    (List.range 2).map (alphaPos 4) = [38, 44] ∧
    idx2Base 4 = 81 ∧
    idx1Base 4 = 50 := by decide

theorem test_layout_mode5 :
    (List.range 3).map (fun c => (List.range 2).map (colourPos 5 c)) =
      [[8, 15], [22, 29], [36, 43]] ∧
    (List.range 2).map (alphaPos 5) = [50, 58] ∧
    idx2Base 5 = 97 ∧
    idx1Base 5 = 66 := by decide

theorem test_layout_mode6 :
    (List.range 3).map (fun c => (List.range 2).map (colourPos 6 c)) =
      [[7, 14], [21, 28], [35, 42]] ∧
    (List.range 2).map (alphaPos 6) = [49, 56] ∧
    (List.range 2).map (pbitBase 6 + ·) = [63, 64] ∧
    idx1Base 6 = 65 := by decide

theorem test_layout_mode7 :
    (List.range 3).map (fun c => (List.range 4).map (colourPos 7 c)) =
      [[14, 19, 24, 29], [34, 39, 44, 49], [54, 59, 64, 69]] ∧
    (List.range 4).map (alphaPos 7) = [74, 79, 84, 89] ∧
    (List.range 4).map (pbitBase 7 + ·) = [94, 95, 96, 97] ∧
    idx1Base 7 = 98 := by decide

/-! ## The partition tables' second spelling: the pixel columns of R52 and R54, each row one decimal numeral -/

/-- The pixel column of R52. -/
def p2Digits : List Nat :=
  [11001100110011, 1000100010001, 111011101110111, 1001100110111,
   100010011, 11011101111111, 1001101111111, 100110111,
   10011, 11011111111111, 101111111, 10111,
   1011111111111, 11111111, 111111111111, 1111] ++
  [100011101111, 111000100000000, 10001110, 111001100010000,
   11000100000000, 100011001110, 10001100, 111001100110001,
   11000100010000, 100010001100, 110011001100110, 11011001101100,
   1011111101000, 111111110000, 111000110001110, 11100110011100] ++
  [101010101010101, 111100001111, 101101001011010, 11001111001100,
   11110000111100, 101010110101010, 110100101101001, 101101010100101,
   111001111001110, 1001111001000, 11001001001100, 11101111011100,
   110100110010110, 11110011000011, 110011010011001, 11001100000] ++
  [100111001000000, 10011100100000, 1001110010, 10011100100,
   110110010010011, 11011011001001, 110001110011100, 11100111000110,
   110110011001001, 110001100111001, 111111010000001, 1100011100111,
   111100110011, 11001111110000, 10001011101110, 100010001110111]

/-- The pixel column of R54. -/
def p3Digits : List Nat :=
  [11001102212222, 1001122112221, 200122112211, 222002200110111,
   11221122, 11001100220022, 22002211111111, 11001122112211,
   11112222, 111111112222, 111122222222, 12001200120012,
   112011201120112, 122012201220122, 11011211221222, 11200122002220] ++
  [1001101121122, 111001120012200, 112211221122, 22002200221111,
   111011102220222, 1000122212221, 1101220122, 110022102210,
   122012200110000, 12001211222222, 110122112210110, 11012211221,
   22110211020022, 110011020022222, 11012201220011, 200022112221] ++
  [211221222, 222002200120011, 11001200220222, 120012001200120,
   111122220000, 120120120120120, 120201212010120, 11220011220011,
   11112222000011, 101010122222222, 21212121, 22112200221122,
   22001100220011, 220122102201221, 101222222220101, 212121212121] ++
  [101010101012222, 222011102220111, 2111200021112, 211221122112,
   222011101110222, 2111211120002, 110011001102222, 21122112,
   110011022222222, 22001100110022, 22112211220022, 2112,
   2000100020001, 222122202221222, 101222222222222, 111201122012220]

theorem test_p2_digits : ∀ (p : Fin 64) (i : Fin 16),
    (Rom.p2 (BitVec.ofFin p) i).val = p2Digits.getD p.val 0 / 10 ^ (15 - i.val) % 10 := by decide +kernel

theorem test_p3_digits : ∀ (p : Fin 64) (i : Fin 16),
    (Rom.p3 (BitVec.ofFin p) i).val = p3Digits.getD p.val 0 / 10 ^ (15 - i.val) % 10 := by decide +kernel

/-! ## Operand computations -/

/-- L2-READ. -/
theorem test_readBits :
    let b := blockOfBytes (bytes [0x40, 0x01, 0xA5, 0x3C, 0xFF, 0x00, 0x80, 0x7F, 0x12, 0x34, 0x56, 0x78, 0x9A, 0xBC, 0xDE, 0xF0])
    [(0, 0), (6, 1), (7, 7), (28, 8), (0, 32), (55, 2), (96, 32), (127, 1), (127, 2)].map
      (fun q => readBits b q.1 q.2) =
    [some 0, some 1, some 2, some 243, some 1017446720, some 3, some 4041129114, some 1, none] := by decide

/-- The `take` sequence of L2-READ: 3, 5, 0, 9 bits, ending at 17. -/
theorem test_takes :
    takes (blockOfBytes (bytes [0x40, 0x01, 0xA5, 0x3C, 0xFF, 0, 0, 0, 0, 0, 0, 0, 0, 0, 0, 0])) 0 [3, 5, 0, 9] =
      some ([0, 8, 0, 257], 17) := by decide

/-- L2-DQ. -/
theorem test_dq5 : (List.range 32).map (fun v => (dq v 5).toNat) =
    [0, 8, 16, 24, 33, 41, 49, 57, 66, 74, 82, 90, 99, 107, 115, 123, 132, 140, 148, 156, 165, 173, 181, 189, 198, 206, 214,
      222, 231, 239, 247, 255] := by decide

/-- L2-DQ, channel table: modes 0, 1, 3, 6, 7 with p-bits. -/
theorem test_dqChan :
    [dqChan 0 4 (some 1), dqChan 15 4 (some 0), dqChan 0 6 (some 1), dqChan 100 7 (some 1), dqChan 15 5 (some 0),
      dqChan 16 5 none, dqChan 64 7 none] = [8, 247, 2, 201, 121, 132, 129] := by decide

/-- L2-INTERP: W4 from 0 to 255, and a tie rounds up. -/
theorem test_interp :
    Rom.w4.map (fun w => (interp 0 255 w).toNat) =
      [0, 16, 36, 52, 68, 84, 104, 120, 135, 151, 171, 187, 203, 219, 239, 255] ∧
    interp 0 1 32 = 1 ∧ interp 254 0 9 = 218 := by decide

/-- L2-SELROT. -/
theorem test_rotate :
    [0, 1, 2, 3].map (fun r => rotate r ⟨10, 20, 30, 40⟩) =
      [⟨10, 20, 30, 40⟩, ⟨40, 20, 30, 10⟩, ⟨10, 40, 30, 20⟩, ⟨10, 20, 40, 30⟩] := by decide

/-! ## One step of each instruction: pixels of the L2-DECODE tables -/

theorem test_mode0_pixels : pixels block0 [0, 2, 15] = some [⟨247, 0, 0, 255⟩, ⟨0, 247, 0, 255⟩, ⟨0, 0, 247, 255⟩] := by
  decide

theorem test_mode1_pixels :
    pixels block1 [0, 1, 4, 12] = some [⟨2, 2, 2, 255⟩, ⟨217, 0, 36, 255⟩, ⟨148, 148, 148, 255⟩, ⟨109, 109, 109, 255⟩] := by
  decide

theorem test_mode2_pixels :
    pixels block2 [2, 7, 15] = some [⟨171, 171, 84, 255⟩, ⟨255, 255, 0, 255⟩, ⟨69, 151, 234, 255⟩] := by decide

theorem test_mode3_pixels :
    pixels block3 [0, 3, 14] = some [⟨171, 171, 171, 255⟩, ⟨128, 0, 0, 255⟩, ⟨0, 0, 0, 255⟩] := by decide

theorem test_mode4_pixels :
    pixels block4 [0, 1, 15] = some [⟨84, 147, 132, 108⟩, ⟨255, 0, 132, 255⟩, ⟨84, 0, 132, 255⟩] := by decide

theorem test_mode5_pixels :
    pixels block5 [0, 1, 2] = some [⟨255, 84, 129, 0⟩, ⟨171, 255, 129, 84⟩, ⟨84, 0, 129, 171⟩] := by decide

theorem test_mode6_pixels :
    pixels block6 [1, 8, 15] = some [⟨16, 16, 16, 16⟩, ⟨135, 135, 135, 135⟩, ⟨255, 255, 255, 255⟩] := by decide

theorem test_mode7_pixels :
    pixels block7 [1, 2, 15] = some [⟨4, 4, 255, 255⟩, ⟨170, 1, 84, 165⟩, ⟨251, 0, 0, 121⟩] := by decide

theorem test_reserved_pixels : pixels blockR [0, 15] = some [⟨0, 0, 0, 255⟩, ⟨0, 0, 0, 255⟩] := by decide

/-- L1-3, the anchor's short field: pixel 0 is 120, pixel 1 is 16. -/
theorem test_anchor_width :
    pixels (bytes [0x40, 0xC0, 0x1F, 0xF0, 0x07, 0xFC, 0x01, 0x7F, 0x1F, 0, 0, 0, 0, 0, 0, 0]) [0, 1] =
      some [⟨120, 120, 120, 120⟩, ⟨16, 16, 16, 16⟩] := by decide

/-! ## The output write (L1-5, L2-WRITE) -/

/-- Block (1, 1) of a 6 by 5 image writes bytes 112 to 119 and no other. -/
theorem test_edge_clipping :
    (nxt (step { State.reset with requests := [⟨block6, 1, 1, 6, 5⟩], destLen := 120 })).map
      (fun t => t.dest.map Prod.fst) = some [112, 113, 114, 115, 116, 117, 118, 119] := by decide

/-- Block (2, 0) of a 6 by 5 image writes nothing. -/
theorem test_outside_writes_nothing :
    (nxt (step { State.reset with requests := [⟨block6, 2, 0, 6, 5⟩], destLen := 120 })).map (·.dest) = some [] := by
  decide

/-- Pixel 1 of MODE4's example stands at bytes 4..7 as R, G, B, A (R84). -/
theorem test_pixel_bytes :
    (nxt (step (start 2 1 block4))).map (fun t => t.dest) =
      some [(0, 84), (1, 147), (2, 132), (3, 108), (4, 255), (5, 0), (6, 132), (7, 255)] := by decide

/-! ## The caller's duties (R283 to R286) -/

theorem test_p1_refused : ref (step (start 4 4 (bytes [64, 0]))) = some .blockNotSixteenBytes := by decide

theorem test_p2_refused :
    ref (step { start 4 4 block6 with destLen := 63 }) = some .bufferTooSmall := by decide

theorem test_p3_refused :
    ref (step { start 8 4 block6 with inFlight := [⟨0, 0, 8, 4⟩] }) = some .footprintInUse := by decide

theorem test_p3_disjoint_accepted :
    (nxt (step { start 8 4 block6 with inFlight := [⟨1, 0, 8, 4⟩] })).isSome = true := by decide

/-! ## Reset and the host's fetch -/

/-- Reset inside a decode: Idle, no completion, the request gone (R301). -/
theorem test_reset_inside :
    (((inside 3 block4).map State.assertReset).bind fun s => nxt (step s)).map
      (fun t => (t.seq, t.completion, t.requests)) = some (.idle, false, []) := by decide

theorem test_table_words :
    [(8, 0x01), (8, 0x02), (8, 0x04), (8, 0x08), (8, 0x10), (8, 0x20), (8, 0x40), (8, 0x80), (8, 0x00)].map
      (fun q => (decodeTableWord q.1 q.2).map Instr.mode) =
    [some (.valid 0), some (.valid 1), some (.valid 2), some (.valid 3), some (.valid 4), some (.valid 5), some (.valid 6),
      some (.valid 7), some .reserved] := by decide

theorem test_fetch_word_runs :
    (nxt (step (State.reset.withFetchWord 8 0x20))).map (fun t => (t.mode, t.bitPos, t.completion, t.dest.length)) =
      some (.valid 5, 128, true, 64) := by decide

/-! ## Witnesses: for each statement with hypotheses, states and operands that meet all of them together -/

/-- Whether there is a next state. -/
def isNext {σ : Type} (o : Host.Outcome σ Fault Refusal) : Bool := (nxt o).isSome

/-- A request for block (x, y) of a w by h image. -/
def req (b : List Byte) (x y w h : Nat) : Request := ⟨b, x, y, w, h⟩

/-- A unit that has just accepted a block of a 2 by 2 image, in a buffer of 16 bytes that hold 9. -/
def ready : State :=
  State.accept (req block4 0 0 2 2) [] { State.reset with destLen := 16, dest := (List.range 16).map fun a => (a, 9) }

/-- Whether the unit k transitions into the decode of b meets f. -/
def at? (k : Nat) (b : List Byte) (f : State → Bool) : Bool := ((inside k b).map f).getD false

/-- The nine examples. -/
def examples : List Instr := [instr0, instr1, instr2, instr3, instr4, instr5, instr6, instr7, .reserved 5]

theorem witness_DecodeUndoesEncode : examples.all Instr.wellFormed = true := by decide

theorem witness_DecodeTakesSixteenBytes :
    examples.all Instr.wellFormed = true ∧ (bytes [1, 2]).length < 16 ∧ ¬ block0.length < 16 := by decide

theorem witness_ModeIsFirstSetBit :
    at? 0 block0 (fun s => decide (s.seq = .detectMode) && decide (detect s.blk = .valid 0) && isNext s.tick) = true ∧
    at? 0 block7 (fun s => decide (s.seq = .detectMode) && decide (detect s.blk = .valid 7) && isNext s.tick) = true := by
  decide

theorem witness_DetectModeWritesModeAndDescriptor :
    at? 0 blockR (fun s => decide (s.seq = .detectMode) && decide ((field s.blk 0 8).toNat = 0) && isNext s.tick) = true ∧
    at? 0 block7 (fun s => decide (s.seq = .detectMode) && decide ((field s.blk 0 8).toNat ≠ 0) && isNext s.tick) = true ∧
    at? 1 block0 (fun s => decide (s.seq ≠ .idle) && decide (s.seq ≠ .detectMode) && isNext s.tick) = true := by decide

theorem witness_ReadBitsSumsStreamBits :
    (readBits (blockOfBytes block6) 96 32).isSome = true ∧ (readBits (blockOfBytes block6) 128 0).isSome = true ∧
    readBits (blockOfBytes block6) 127 2 = none ∧ readBits (blockOfBytes block6) 0 33 = none := by decide

theorem witness_BlockBitsAreByteBits : block3.length = 16 ∧ (0 < 128 ∧ 127 < 128) := by decide

theorem witness_StepRunsTheDecodedInstruction :
    (start 4 4 block4).seq = .idle ∧ (start 4 4 block4).resetIn = false ∧
    (start 4 4 block4).requests = req block4 0 0 4 4 :: [] ∧ decode block4 = .ok (instr4, []) := by
  refine ⟨by decide, by decide, rfl, by rfl⟩

theorem witness_SequencerComputesTheTransaction :
    (start 4 4 blockR).seq = .idle ∧ (start 4 4 blockR).resetIn = false ∧
    (start 4 4 blockR).requests = req blockR 0 0 4 4 :: [] ∧ blockR.length = 16 ∧
    detect (blockOfBytes blockR) = .reserved ∧ (start 4 4 block4).requests = req block4 0 0 4 4 :: [] ∧
    block4.length = 16 ∧ detect (blockOfBytes block4) ≠ .reserved := by decide

/-- Every phase of a valid decode, the two of a Reserved one, and Idle with and without a request. -/
theorem witness_SequencerTransitions :
    at? 0 block4 (fun s => decide (s.seq = .detectMode) && isNext s.tick) = true ∧
    at? 1 block4 (fun s => decide (s.seq = .readPartitionRotationSelector) && isNext s.tick) = true ∧
    at? 2 block4 (fun s => decide (s.seq = .readEndpointChannels) && isNext s.tick) = true ∧
    at? 3 block4 (fun s => decide (s.seq = .readPBits) && isNext s.tick) = true ∧
    at? 4 block4 (fun s => decide (s.seq = .dequantize) && isNext s.tick) = true ∧
    at? 5 block4 (fun s => decide (s.seq = .readIndices) && isNext s.tick) = true ∧
    at? 6 block4 (fun s => decide (s.seq = .interpolatePixels) && isNext s.tick) = true ∧
    at? 7 block4 (fun s => decide (s.seq = .applyRotation) && isNext s.tick) = true ∧
    at? 8 block4 (fun s => decide (s.seq = .writeOutput) && isNext s.tick) = true ∧
    at? 0 blockR (fun s => decide (s.seq = .detectMode) && isNext s.tick) = true ∧
    isNext (start 4 4 block4).tick = true ∧ isNext State.reset.tick = true := by decide +kernel

/-- The fields each phase reads are there: selector and rotation (mode 4), p-bits of both kinds, two index sets. -/
theorem witness_CursorAdvancesByFieldsRead :
    at? 0 block7 (fun s => s.Inv && decide (s.seq = .detectMode) && decide (detect s.blk = .valid 7) && isNext s.tick) =
      true ∧
    at? 0 blockR (fun s => s.Inv && decide (s.seq = .detectMode) && decide (detect s.blk = .reserved) && isNext s.tick) =
      true ∧
    at? 4 block4 (fun s => s.Inv && decide (s.seq = .dequantize) && isNext s.tick) = true ∧
    at? 6 block4 (fun s => s.Inv && decide (s.seq = .interpolatePixels) && isNext s.tick) = true ∧
    at? 7 block4 (fun s => s.Inv && decide (s.seq = .applyRotation) && isNext s.tick) = true ∧
    at? 1 blockR (fun s => s.Inv && decide (s.seq = .writeOutput) && isNext s.tick) = true ∧
    at? 1 block4 (fun s => s.Inv && decide (s.seq = .readPartitionRotationSelector) && isNext s.tick) = true ∧
    at? 2 block0 (fun s => s.Inv && decide (s.seq = .readEndpointChannels) && isNext s.tick) = true ∧
    at? 2 block5 (fun s => s.Inv && decide (s.seq = .readEndpointChannels) && isNext s.tick) = true ∧
    at? 3 block7 (fun s => s.Inv && decide (s.seq = .readPBits) && isNext s.tick) = true ∧
    at? 3 block1 (fun s => s.Inv && decide (s.seq = .readPBits) && isNext s.tick) = true ∧
    at? 5 block2 (fun s => s.Inv && decide (s.seq = .readIndices) && isNext s.tick) = true := by decide +kernel

theorem witness_HeaderFieldsAreTakenInOrder :
    at? 1 block4 (fun s => s.Inv && decide (s.seq = .readPartitionRotationSelector) && isNext s.tick) = true ∧
    at? 1 block6 (fun s => s.Inv && decide (s.seq = .readPartitionRotationSelector) && isNext s.tick &&
      decide (s.desc.pb = 0) && decide (s.desc.rb = 0) && decide (s.desc.isb = 0)) = true := by decide +kernel

/-- One, two and three subsets. -/
theorem witness_SubsetsComeFromTheRowOfNs :
    at? 1 block6 (fun s => decide (s.seq = .readPartitionRotationSelector) && isNext s.tick && decide (s.desc.ns = .one)) =
      true ∧
    at? 1 block7 (fun s => decide (s.seq = .readPartitionRotationSelector) && isNext s.tick && decide (s.desc.ns = .two)) =
      true ∧
    at? 1 block2 (fun s => decide (s.seq = .readPartitionRotationSelector) && isNext s.tick && decide (s.desc.ns = .three)) =
      true := by decide +kernel

theorem witness_AnchorsAreMarkedFromTheTables :
    at? 1 block2 (fun s => decide (s.seq = .readPartitionRotationSelector) && isNext s.tick) = true ∧
    at? 1 block7 (fun s => decide (s.seq = .readPartitionRotationSelector) && isNext s.tick) = true := by decide +kernel

/-- With and without a second index set. -/
theorem witness_IndicesAreReadWithAnchorWidths :
    at? 5 block4 (fun s => s.Inv && decide (s.seq = .readIndices) && isNext s.tick && decide (s.desc.ib2 = some .three)) =
      true ∧
    at? 5 block5 (fun s => s.Inv && decide (s.seq = .readIndices) && isNext s.tick && decide (s.desc.ib2 = some .two)) =
      true ∧
    at? 5 block0 (fun s => s.Inv && decide (s.seq = .readIndices) && isNext s.tick && decide (s.desc.ib2 = none)) = true := by
  decide +kernel

theorem witness_IndicesStayInRange :
    detect (blockOfBytes block4) = .valid 4 ∧ (Rom.mode 4).ib2 = some .three ∧
    (nxt (exec (decodeBlock (blockOfBytes block4)) ready)).map (fun t => t.anchor[0]) = some true := by decide

theorem witness_BusyUnitLeavesRequestsWaiting :
    at? 3 block4 (fun s => decide (s.seq ≠ .idle) && isNext s.tick) = true ∧
    at? 8 block4 (fun s => decide (s.seq ≠ .idle) && isNext s.tick) = true := by decide +kernel

theorem witness_IdleUnitWaits :
    State.reset.seq = .idle ∧ State.reset.resetIn = false ∧ State.reset.requests = [] := by decide

/-- The least and the greatest width and value. -/
theorem witness_DequantizerReplicatesHighBits :
    (5 ≤ (5 : Fin 9).val ∧ 31 < 2 ^ (5 : Fin 9).val) ∧ (5 ≤ (8 : Fin 9).val ∧ 255 < 2 ^ (8 : Fin 9).val) := by decide

theorem witness_DequantizerBoundsAndOrder :
    4 ≤ (4 : Fin 9).val ∧ (5 ≤ (5 : Fin 9).val ∧ 0 < 1 ∧ 1 < 2 ^ (5 : Fin 9).val) ∧
    (5 ≤ (8 : Fin 9).val ∧ 254 < 255 ∧ 255 < 2 ^ (8 : Fin 9).val) := by decide

theorem witness_InterpolationIsTheRoundedSum : 0 ≤ 64 ∧ 64 ≤ 64 := by decide

theorem witness_InterpolationStaysBetweenEndpoints : 0 ≤ 64 ∧ 64 ≤ 64 := by decide

theorem witness_RotationSelectsTheSwap :
    instr1.mode = .valid 1 ∧ (Rom.mode 1).rb = 0 ∧ isNext (exec instr1 ready) = true ∧
    at? 7 block5 (fun s => decide (s.seq = .applyRotation)) = true := by decide +kernel

/-- The states of Mode0DecodesByItsRule to Mode7DecodesByItsRule and of ReservedDecodesToOpaqueBlack: within the duties,
with an image that has pixels, and one with no image at all. -/
theorem witness_DecodesByItsRule :
    ready.dutiesMet = true ∧ State.reset.dutiesMet = true ∧ ready.inBounds 0 = true ∧ ready.inBounds 15 = false := by decide

theorem witness_ColourModesFrame :
    [instr0, instr1, instr2, instr3].all (fun i => isNext (exec i ready)) = true ∧ (4 ≤ (4 : Fin 6).val) := by decide

theorem witness_AlphaModesFrame :
    [instr4, instr5, instr6, instr7].all (fun i => isNext (exec i ready)) = true ∧ (2 ≤ (2 : Fin 6).val) := by decide

theorem witness_ReservedFrame : isNext (exec (.reserved 5) ready) = true := by decide

/-- Pixels 0 and 5 of the 2 by 2 image are within it, pixel 2 is not. -/
theorem witness_PixelWordsLandAtTheirOffsets :
    ready.dutiesMet = true ∧ isNext (exec instr4 ready) = true ∧
    (0 * 4 + 5 % 4 < ready.imageWidth ∧ 0 * 4 + 5 / 4 < ready.imageHeight) ∧
    ¬ (ready.blockX * 4 + 2 % 4 < ready.imageWidth ∧ ready.blockY * 4 + 2 / 4 < ready.imageHeight) := by decide

theorem witness_OnlyTheClippedFootprintIsWritten :
    isNext (exec instr4 ready) = true ∧ ready.inFootprint 0 = true ∧ ready.inFootprint 15 = true ∧
    ready.inFootprint 16 = false ∧
    (isNext (exec instr4 { ready with blockX := 1 }) = true ∧ ready.imageWidth ≤ 1 * 4) ∧
    (isNext (exec instr4 { ready with imageHeight := 0 }) = true) := by decide

theorem witness_WriteOrderCannotBeObserved :
    ready.dest.wf = true ∧ pixelNumbers.reverse.Perm pixelNumbers := by
  refine ⟨by decide, by decide⟩

theorem witness_DecodesOfDistinctBlocksCommute :
    (let s := start 8 4 block4
     let q := req block4 0 0 8 4
     let r := req block6 1 0 8 4
     s.seq = .idle ∧ s.resetIn = false ∧ s.inFlight = [] ∧ s.dest.wf = true ∧ q.blockBytes.length = 16 ∧
     r.blockBytes.length = 16 ∧ q.imageWidth = r.imageWidth ∧ q.imageHeight = r.imageHeight ∧
     (q.blockX, q.blockY) ≠ (r.blockX, r.blockY) ∧ r.imageWidth * r.imageHeight * 4 ≤ s.destLen) := by decide

/-- An instance that has only its pixels to write, for block (x, 0) of a 5 by 1 image. -/
def writing (x : Nat) : State :=
  { (State.accept (req block4 x 0 5 1) [] State.reset) with seq := .writeOutput, mode := .valid 4, desc := Rom.mode 4 }

/-- Two such instances on a buffer of 20 bytes. -/
def pair (x x' : Nat) : System := { units := [writing x, writing x'], dest := [], destLen := 20 }

theorem witness_DisjointInstancesCommute :
    (pair 0 1).units[0]? = some (writing 0) ∧ (pair 0 1).units[1]? = some (writing 1) ∧ (writing 0).seq ≠ .idle ∧
    (writing 1).seq ≠ .idle ∧ (writing 0).region.overlaps (writing 1).region = false ∧
    (writing 1).region.overlaps (writing 0).region = false ∧ (pair 0 1).dest.wf = true ∧
    ((nxt ((pair 0 1).tick 0)).bind fun a => nxt (a.tick 1)).isSome = true := by decide

theorem witness_OverlappingInstancesAreRefused :
    (pair 0 0).units[0]? = some (writing 0) ∧ (pair 0 0).units[1]? = some (writing 0) ∧ (writing 0).seq = .writeOutput ∧
    (writing 0).seq ≠ .idle ∧ (writing 0).region.overlaps (writing 0).region = true ∧
    (writing 0).imageWidth * (writing 0).imageHeight * 4 ≤ (pair 0 0).destLen := by decide

/-- Two Idle units that differ in their latched request and in the requests that wait. -/
theorem witness_OutputIsAFunctionOfTheRequest :
    isNext (exec instr4 ready) = true ∧ isNext (exec instr4 State.reset) = true ∧
    isNext (step (start 4 4 block4)) = true ∧
    (let s' := { ready with seq := .idle, requests := [req block4 0 0 4 4, req block6 1 0 4 4], dest := [], destLen := 64 }
     s'.seq = .idle ∧ s'.resetIn = false ∧ s'.requests = req block4 0 0 4 4 :: [req block6 1 0 4 4] ∧
     s'.dest = (start 4 4 block4).dest ∧ s'.destLen = (start 4 4 block4).destLen ∧
     s'.inFlight = (start 4 4 block4).inFlight ∧ s'.imageWidth ≠ (start 4 4 block4).imageWidth) := by decide

theorem witness_RepeatedDecodeChangesNothing : ready.dest.wf = true ∧ isNext (exec instr4 ready) = true := by decide

/-- One index set: pixel 15 of MODE1's example. Two: a MODE4 block whose indices are all 0. -/
theorem witness_IndexZeroShowsTheLowEndpoint :
    instr1.mode = .valid 1 ∧ (nxt (exec instr1 ready)).map (fun t => t.idx1[15]) = some 0 ∧ (Rom.mode 1).ib2 = none ∧
    (Rom.mode 4).ib2.isSome = true ∧
    (nxt (exec (.mode4 3 0 #v[⟨1, 2, 3⟩, ⟨4, 5, 6⟩] #v[7, 8] (Vector.ofFn fun _ => 0) (Vector.ofFn fun _ => 0)) ready)).map
      (fun t => (t.idx1[2], t.idx2[2])) = some (0, 0) := by decide

theorem witness_ModesWithoutAlphaAreOpaque :
    instr3.mode = .valid 3 ∧ (Rom.mode 3).ab = 0 ∧ isNext (exec instr3 ready) = true := by decide

/-- The three broken duties and the kept ones, each at its boundary: 15 and 17 bytes, one byte of buffer short. -/
theorem witness_RefusedExactlyWhenADutyIsBroken :
    (start 4 4 block4).seq = .idle ∧ (start 4 4 block4).resetIn = false ∧
    (start 4 4 block4).requests = req block4 0 0 4 4 :: [] ∧
    (block4.take 15).length ≠ 16 ∧ (block4 ++ [0]).length ≠ 16 ∧ block4.length = 16 ∧ 63 < 4 * 4 * 4 ∧
    4 * 4 * 4 ≤ (start 4 4 block4).destLen ∧
    [Region.mk 0 0 4 4].any (fun g => g.overlaps ⟨0, 0, 4, 4⟩) = true ∧
    [Region.mk 1 0 8 4].any (fun g => g.overlaps ⟨0, 0, 8, 4⟩) = false := by decide

theorem witness_ResetLeavesTheUnitIdle :
    (start 4 4 block4).assertReset.resetIn = true ∧ isNext (step (start 4 4 block4).assertReset) = true := by decide

/-- Reset of the first of two instances: inside its decode, and in Idle. -/
theorem witness_ResetOfOneInstanceLeavesTheOthers :
    (let y : System := { pair 0 1 with units := [(writing 0).assertReset, writing 1] }
     let u := (writing 0).assertReset
     y.units[0]? = some u ∧ u.resetIn = true ∧ isNext (y.tick 0) = true ∧ u.seq ≠ .idle ∧ u.inFootprint 16 = false ∧
     isNext (y.attach 0 u).runToIdle = true) ∧
    (let y : System := { pair 0 1 with units := [State.reset.assertReset, writing 1] }
     y.units[0]? = some State.reset.assertReset ∧ isNext (y.tick 0) = true ∧ State.reset.assertReset.seq = .idle) := by
  decide

theorem witness_ResetDuringADecodeMixesTheFootprint :
    at? 3 block4 (fun s => let s := s.assertReset
      s.Inv && decide (s.seq ≠ .idle) && s.resetIn && isNext s.runToIdle && isNext (step s)) = true := by decide +kernel

/-- The first and last bytes of the footprint and the bytes beside it; one busy instance of two, and both. -/
theorem witness_CallerSeesPriorOrDecodedBytes :
    (State.reset.seq = .idle ∧ State.reset.inFlight.any (fun g => g.covers 0) = false) ∧
    at? 3 block4 (fun s => decide (s.seq ≠ .idle) && isNext s.runToIdle && s.inFootprint 0 && s.inFootprint 3) = true ∧
    at? 3 block4 (fun s => decide (s.seq ≠ .idle) && !s.inFootprint 4 && !s.inFlight.any (fun g => g.covers 4)) = true ∧
    (let s : State := { start 8 4 block4 with inFlight := [⟨1, 0, 8, 4⟩] }
     s.seq = .idle ∧ s.inFlight.any (fun g => g.covers 15) = false ∧ s.inFlight.any (fun g => g.covers 16) = true ∧
     s.inFlight.any (fun g => g.covers 31) = true ∧ s.inFlight.any (fun g => g.covers 32) = false) ∧
    (let y := pair 0 1
     y.units[0]? = some (writing 0) ∧ (writing 0).seq ≠ .idle ∧ (writing 0).inFootprint 15 = true ∧
     (writing 1).inFootprint 15 = false ∧ (writing 0).inFootprint 20 = false ∧ (writing 1).inFootprint 20 = false ∧
     y.units.length = 2 ∧ isNext (y.attach 0 (writing 0)).runToIdle = true) := by decide +kernel

/-- Two decodes of one block at once show nothing (R95). -/
theorem test_overlapping_decodes_show_nothing : (pair 0 0).visible 7 0 = none := by decide +kernel

/-- A byte after its decode's completion, and one that no decode writes, are the buffer's. -/
theorem test_completed_bytes_show :
    (nxt ((pair 0 1).tick 0)).map (fun y => (y.visible 3 3, y.visible 3 20)) = some (some 0, none) := by decide +kernel

/-- A step from Idle, one from inside a decode and one of reset. -/
theorem witness_StepKeepsTheInvariant :
    ((start 4 4 block4).Inv = true ∧ isNext (step (start 4 4 block4)) = true) ∧
    at? 4 block7 (fun s => s.Inv && isNext (step s)) = true ∧
    at? 4 block7 (fun s => s.assertReset.Inv && isNext (step s.assertReset)) = true := by decide +kernel

theorem witness_NothingFaults : at? 5 block0 State.Inv = true ∧ State.reset.Inv = true := by decide +kernel

theorem witness_EveryDecodeEndsInNineTransitions :
    at? 0 block3 (fun s => s.Inv && decide (s.seq ≠ .idle) && s.dutiesMet) = true ∧
    at? 8 block3 (fun s => s.Inv && decide (s.seq ≠ .idle) && s.dutiesMet) = true ∧
    at? 1 blockR (fun s => s.Inv && decide (s.seq = .writeOutput) && s.dutiesMet) = true := by decide +kernel

theorem witness_OutcomeIsValidOrReserved :
    isNext (exec (decodeBlock (blockOfBytes block2)) ready) = true ∧
    isNext (exec (decodeBlock (blockOfBytes blockR)) ready) = true := by decide

end Sys2Proof.Tests
end

