-- ==== Sys2Proof/Proofs/Invariant.lean ====
section
/-! PROOFS. The invariant as named parts, what one transition makes of each part, and the two statements about it: every
step keeps it, and the bit cursor advances by the fields read. -/

namespace Sys2Proof.Machine

/-! ## The buffer: canonical and inside its length (R92) -/

/-- A memory in canonical form whose known bytes all lie below `len`. -/
structure Memory.Inside (m : Memory) (len : Nat) : Prop where
  wf : m.wf = true
  lt : ∀ a, m.read a ≠ none → a < len

theorem Memory.all_lt_iff (m : Memory) (len : Nat) :
    m.all (fun c => decide (c.1 < len)) = true ↔ ∀ a, m.read a ≠ none → a < len := by
  induction m with
  | nil => simp
  | cons c m ih =>
    simp only [List.all_cons, Bool.and_eq_true, decide_eq_true_eq, ih, Memory.read_cons]
    constructor
    · rintro ⟨hc, hm⟩ a ha
      by_cases hac : a = c.1
      · omega
      · exact hm a (by simpa [hac] using ha)
    · intro h
      refine ⟨h c.1 (by simp), fun a ha => ?_⟩
      by_cases hac : a = c.1
      · exact hac ▸ h c.1 (by simp)
      · exact h a (by simpa [hac] using ha)

/-- The clipped pixel writes of a decode stay inside a buffer that fits the image (P2, R92). -/
theorem Memory.Inside.writePixels {s : State} {m : Memory} (hm : m.Inside s.destLen) (hf : s.bufferFits = true) :
    Memory.Inside (s.writePixels pixelNumbers m) s.destLen where
  wf := s.writePixels_wf _ hm.wf
  lt a ha := by
    by_cases hin : s.inFootprint a = true
    · obtain ⟨i, -, hi⟩ := List.any_eq_true.mp hin
      simp only [Bool.and_eq_true, decide_eq_true_eq] at hi
      obtain ⟨⟨hb, -⟩, hlt⟩ := hi
      have hbound := s.pixelOffset_bound hb
      have hfit : s.imageWidth * s.imageHeight * 4 ≤ s.destLen := of_decide_eq_true hf
      omega
    · exact hm.lt a (by rwa [s.read_writePixels_outside m (by simpa using hin)] at ha)

/-- A mix of two memories inside the buffer is inside it (R301). -/
theorem Memory.Inside.mixBytes {decoded prior : Memory} {len : Nat} (hd : decoded.Inside len) (hp : prior.Inside len)
    (pick : Nat → Bool) (offsets : List Nat) : Memory.Inside (mixBytes pick decoded offsets prior) len where
  wf := mixBytes_wf pick decoded offsets hp.wf
  lt a ha := by
    rw [read_mixBytes] at ha
    split at ha
    · exact hd.lt a ha
    · exact hp.lt a ha

/-! ## The invariant's parts -/

theorem State.inv_iff (s : State) :
    s.Inv = true ↔ s.dest.Inside s.destLen ∧ s.bitPos ≤ 128 ∧ s.phaseSound = true := by
  simp only [State.Inv, Bool.and_eq_true, decide_eq_true_eq, Memory.all_lt_iff]
  exact ⟨fun ⟨⟨⟨hw, hl⟩, hp⟩, hs⟩ => ⟨⟨hw, hl⟩, hp, hs⟩, fun ⟨⟨hw, hl⟩, hp, hs⟩ => ⟨⟨⟨hw, hl⟩, hp⟩, hs⟩⟩

/-- A decode of mode m in progress, past `DetectMode`, with the registers its place in the sequence gives it. -/
structure State.Decoding (m : Fin 8) (s : State) : Prop where
  mode : s.mode = .valid m
  desc : s.desc = Rom.mode m
  bitPos : s.bitPos = cursorAt m s.seq
  header : s.seq = .readPartitionRotationSelector ∨ s.headerSound = true

/-- A Reserved block waiting to be written (R262). -/
structure State.ReservedFill (s : State) : Prop where
  mode : s.mode = .reserved
  seq : s.seq = .writeOutput
  px : ∀ i : Fin 16, s.px[i] = opaqueBlack

theorem State.phaseSound_of_idle {s : State} (h : s.seq = .idle) : s.phaseSound = true := by
  simp [State.phaseSound, h]

theorem State.phaseSound_detectMode {s : State} (h : s.seq = .detectMode) : s.phaseSound = true ↔ s.bitPos = 0 := by
  simp [State.phaseSound, h]

/-- Past `DetectMode` a sound state is in a valid mode's decode or holds the Reserved fill. -/
theorem State.phaseSound_iff {s : State} (hi : s.seq ≠ .idle) (hd : s.seq ≠ .detectMode) :
    s.phaseSound = true ↔ s.ReservedFill ∨ ∃ m, s.Decoding m := by
  unfold State.phaseSound
  split
  · exact absurd ‹_› hi
  · exact absurd ‹_› hd
  · cases hm : s.mode with
    | reserved =>
      simp only [Bool.and_eq_true, beq_iff_eq, List.all_eq_true]
      exact ⟨fun ⟨hq, hp⟩ => .inl ⟨hm, hq, fun i => hp i (List.mem_finRange i)⟩,
        fun h => h.elim (fun f => ⟨f.seq, fun i _ => f.px i⟩) fun ⟨m, d⟩ => nomatch hm.symm.trans d.mode⟩
    | valid m =>
      simp only [Bool.and_eq_true, Bool.or_eq_true, beq_iff_eq]
      constructor
      · rintro ⟨⟨hdesc, hpos⟩, hh⟩
        exact .inr ⟨m, hm, hdesc, hpos, hh⟩
      · rintro (f | ⟨m', d⟩)
        · have := hm.symm.trans f.mode
          cases this
        · have := hm.symm.trans d.mode
          cases this
          exact ⟨⟨d.desc, d.bitPos⟩, d.header⟩

/-- A decode between `DetectMode` and `WriteOutput` is in a valid mode. -/
theorem State.decoding_of_inv {s : State} (h : s.Inv = true) (hi : s.seq ≠ .idle) (hd : s.seq ≠ .detectMode)
    (hw : s.seq ≠ .writeOutput) : ∃ m, s.Decoding m := by
  obtain ⟨-, -, hp⟩ := s.inv_iff.mp h
  exact ((State.phaseSound_iff hi hd).mp hp).resolve_left fun f => hw f.seq

theorem State.headerSound_iff (s : State) :
    s.headerSound = true ↔ s.partition.toNat < 2 ^ s.desc.pb ∧ s.rotation.toNat < 2 ^ s.desc.rb ∧
      s.idxSel.toNat < 2 ^ s.desc.isb ∧ (∀ i : Fin 16, s.subsetOf[i] = Rom.subsetAt s.desc.ns s.partition i) ∧
      ∀ i : Fin 16, s.anchor[i] = Rom.isAnchor s.desc.ns s.partition i := by
  simp [State.headerSound, pixelNumbers, forall_and, and_assoc]

/-! ## The fields a state reads, and the cursor (R36, R141) -/

/-- The widths of the fields the sequencer reads in state s (R142, R144, R180, R181, R200, R202). -/
def State.widthsRead (s : State) : List Nat :=
  match s.seq with
  | .detectMode =>
    match detect s.blk with
    | .valid m => [m.val + 1]
    | .reserved => []
  | .readPartitionRotationSelector => [s.desc.pb, s.desc.rb, s.desc.isb]
  | .readEndpointChannels => endpointWidths s.desc
  | .readPBits => pbitWidths s.desc
  | .readIndices => s.idx1Widths ++ idx2Widths s.desc
  | _ => []

theorem endpointWidths_sum (d : ModeDesc) : (endpointWidths d).sum = 2 * d.ns.count * (3 * d.cb + d.ab) := by
  unfold endpointWidths ModeDesc.ne
  rcases Nat.eq_zero_or_pos d.ab with h | h
  · simp [h]; ring
  · simp [h]; ring

/-- No mode has both kinds of p-bit (R51). -/
theorem pbitWidths_sum (m : Fin 8) : (pbitWidths (Rom.mode m)).sum =
    2 * (Rom.mode m).ns.count * (Rom.mode m).epb.toNat + (Rom.mode m).ns.count * (Rom.mode m).spb.toNat := by
  decide +revert

theorem one_le_indexBits (b : IndexWidth) : 1 ≤ b.bits := by cases b <;> decide

/-- The marked anchors make the primary set one bit an anchor shorter (R104, R107). -/
theorem State.idx1Widths_sum {s : State} (h : s.headerSound = true) :
    s.idx1Widths.sum = 16 * s.desc.ib.bits - s.desc.ns.count := by
  obtain ⟨-, -, -, -, ha⟩ := s.headerSound_iff.mp h
  rw [← Rom.idxWidth_sum_isAnchor s.desc.ns s.partition (one_le_indexBits _)]
  simp only [State.idx1Widths, ha]
  rfl

theorem idx2Widths_sum (d : ModeDesc) : (idx2Widths d).sum = d.ib2.elim 0 fun b => 16 * b.bits - 1 := by
  cases h : d.ib2 with
  | none => simp [idx2Widths, h]
  | some b =>
    rw [Option.elim_some, ← Rom.idxWidth_sum_2nd (one_le_indexBits b)]
    simp only [idx2Widths, h]
    exact congrArg List.sum (List.map_congr_left fun i _ => by simp [idxWidth, Rom.isAnchor2nd])

/-- The fields of every mode fill the block (R104): what the indices leave is nothing. -/
theorem idx1Base_add_idxWidths (m : Fin 8) :
    idx1Base m + (16 * (Rom.mode m).ib.bits - (Rom.mode m).ns.count +
      (Rom.mode m).ib2.elim 0 fun b => 16 * b.bits - 1) = 128 := by
  decide +revert

/-- The order of the states of a valid mode's decode (R250). -/
def Seq.following : Seq → Seq
  | .idle => .detectMode
  | .detectMode => .readPartitionRotationSelector
  | .readPartitionRotationSelector => .readEndpointChannels
  | .readEndpointChannels => .readPBits
  | .readPBits => .dequantize
  | .dequantize => .readIndices
  | .readIndices => .interpolatePixels
  | .interpolatePixels => .applyRotation
  | .applyRotation => .writeOutput
  | .writeOutput => .idle

/-- The widths read in a state are the distance from its cursor to that of the state after it (R105 to R107). -/
theorem State.Decoding.bitPos_add_widthsRead {m : Fin 8} {s : State} (d : s.Decoding m) (hi : s.seq ≠ .idle)
    (hd : s.seq ≠ .detectMode) (hw : s.seq ≠ .writeOutput) :
    s.bitPos + s.widthsRead.sum = cursorAt m s.seq.following := by
  rw [d.bitPos]
  cases hq : s.seq with
  | idle => exact absurd hq hi
  | detectMode => exact absurd hq hd
  | writeOutput => exact absurd hq hw
  | readPartitionRotationSelector =>
    simp [State.widthsRead, hq, d.desc, cursorAt, Seq.following, basePos, Nat.add_assoc]
  | readEndpointChannels =>
    simp only [State.widthsRead, hq, d.desc, cursorAt, Seq.following, endpointWidths_sum, pbitBase, ModeDesc.ne]
    ring
  | readPBits =>
    simp only [State.widthsRead, hq, d.desc, cursorAt, Seq.following, pbitWidths_sum, idx1Base, ModeDesc.ne,
      Nat.add_assoc]
  | readIndices =>
    have hh := d.header.resolve_left (by simp [hq])
    simp only [State.widthsRead, hq, List.sum_append, State.idx1Widths_sum hh, idx2Widths_sum, d.desc, cursorAt]
    exact idx1Base_add_idxWidths m
  | dequantize | interpolatePixels | applyRotation => simp [State.widthsRead, hq, cursorAt, Seq.following]

/-! ## What one transition changes -/

/-- What every transition between `DetectMode` and `WriteOutput` has in common: the next state of the order, the cursor
past the fields read, mode, descriptor and buffer as they were, and a header that is sound once it is read. -/
structure State.Advances (s t : State) : Prop where
  seq : t.seq = s.seq.following
  bitPos : t.bitPos = s.bitPos + s.widthsRead.sum
  mode : t.mode = s.mode
  desc : t.desc = s.desc
  dest : t.dest = s.dest
  destLen : t.destLen = s.destLen
  header : s.seq = .readPartitionRotationSelector ∨ s.headerSound = true → t.headerSound = true

theorem toNat_ofNat_lt {n v k : Nat} (h : v < k) : (BitVec.ofNat n v).toNat < k := by
  rw [BitVec.toNat_ofNat]
  exact (Nat.mod_le v _).trans_lt h

/-- The k-th value a run of takes answers fits its width. -/
theorem takes_getD_lt {blk : Block} {ws vs : List Nat} {pos last : Nat} (h : takes blk pos ws = some (vs, last))
    {k : Nat} (hk : k < ws.length) : vs.getD k 0 < 2 ^ ws.getD k 0 := by
  rw [takes_getD h k hk]
  exact Nat.mod_lt _ (Nat.two_pow_pos _)

theorem State.headerState_advances {s t : State} (hq : s.seq = .readPartitionRotationSelector)
    (h : s.headerState = .next t) : s.Advances t := by
  obtain ⟨vs, hvs, -, rfl⟩ := State.takeThen_next h
  refine ⟨by rw [hq]; rfl, by rw [State.widthsRead, hq]; rfl, rfl, rfl, rfl, rfl, fun _ => ?_⟩
  have hp := takes_getD_lt hvs (k := 0) (by simp)
  have hr := takes_getD_lt hvs (k := 1) (by simp)
  have hx := takes_getD_lt hvs (k := 2) (by simp)
  rw [State.headerSound_iff]
  refine ⟨toNat_ofNat_lt hp, toNat_ofNat_lt hr, toNat_ofNat_lt hx, fun i => ?_, fun i => ?_⟩ <;> simp

/-- The transitions between `DetectMode` and `WriteOutput` (R250). Only the header's reads touch what is kept. -/
theorem State.tick_advances {s t : State} (hi : s.seq ≠ .idle) (hd : s.seq ≠ .detectMode) (hw : s.seq ≠ .writeOutput)
    (h : s.tick = .next t) : s.Advances t := by
  unfold State.tick at h
  cases hq : s.seq <;> simp only [hq] at h
  case idle => exact absurd hq hi
  case detectMode => exact absurd hq hd
  case writeOutput => exact absurd hq hw
  case readPartitionRotationSelector => exact State.headerState_advances hq h
  case readEndpointChannels | readPBits | readIndices =>
    obtain ⟨vs, -, -, rfl⟩ := State.takeThen_next h
    dsimp only
    split_ifs <;> constructor <;> simp [hq, Seq.following, State.widthsRead, State.headerSound_iff]
  case dequantize | interpolatePixels | applyRotation =>
    cases h
    constructor <;> simp [hq, Seq.following, State.widthsRead, State.headerSound_iff]

/-- A transition from Idle takes completion down, or accepts the oldest request (R251). -/
theorem State.tick_of_idle {s t : State} (hq : s.seq = .idle) (h : s.tick = .next t) :
    t = s.clearCompletion ∨ ∃ r rest, t = s.accept r rest := by
  simp only [State.tick, hq] at h
  split at h
  · cases h; exact .inl rfl
  · rename_i r rest hr
    split at h
    · cases h
    · cases h; exact .inr ⟨r, rest, rfl⟩

theorem State.tick_of_detectMode {s t : State} (hq : s.seq = .detectMode) (h : s.tick = .next t) :
    t = s.detectState := by
  simp only [State.tick, hq] at h
  cases h; rfl

theorem State.tick_of_writeOutput {s t : State} (hq : s.seq = .writeOutput) (h : s.tick = .next t) :
    s.dutiesMet = true ∧ t = s.written := by
  simp only [State.tick, hq] at h
  exact State.writeOutput_next h

/-- `DetectMode` of a Reserved block (R262). -/
theorem State.detectState_reserved {s : State} (h : detect s.blk = .reserved) :
    s.detectState = { s.enterReserved with seq := .writeOutput } := by
  simp [State.detectState, h]

/-- `DetectMode` of a block of mode m (R142, R143). -/
theorem State.detectState_valid {s : State} {m : Fin 8} (h : detect s.blk = .valid m) :
    s.detectState = { (s.enterMode m).putCursor (m.val + 1) with seq := .readPartitionRotationSelector } := by
  simp [State.detectState, h]

theorem State.detectState_dest (s : State) : s.detectState.dest = s.dest := by
  unfold State.detectState; split <;> rfl

theorem State.detectState_destLen (s : State) : s.detectState.destLen = s.destLen := by
  unfold State.detectState; split <;> rfl

/-- No transition changes the length of the caller's buffer. -/
theorem State.tick_destLen {s t : State} (h : s.tick = .next t) : t.destLen = s.destLen := by
  by_cases hi : s.seq = .idle
  · rcases State.tick_of_idle hi h with rfl | ⟨r, rest, rfl⟩ <;> rfl
  by_cases hd : s.seq = .detectMode
  · rw [State.tick_of_detectMode hd h, s.detectState_destLen]
  by_cases hw : s.seq = .writeOutput
  · rw [(State.tick_of_writeOutput hw h).2, s.written_destLen]
  exact (State.tick_advances hi hd hw h).destLen

/-- In a sound decode every transition moves the cursor by exactly the fields its state reads (R36). -/
theorem State.tick_bitPos {s t : State} (hs : s.Inv = true) (hi : s.seq ≠ .idle) (h : s.tick = .next t) :
    t.bitPos = s.bitPos + s.widthsRead.sum := by
  obtain ⟨-, -, hp⟩ := s.inv_iff.mp hs
  by_cases hd : s.seq = .detectMode
  · rw [State.tick_of_detectMode hd h, (State.phaseSound_detectMode hd).mp hp]
    cases hm : detect s.blk with
    | reserved =>
      rw [State.detectState_reserved hm]
      simpa [State.widthsRead, hd, hm] using (State.phaseSound_detectMode hd).mp hp
    | valid m => simp [State.detectState_valid hm, State.widthsRead, hd, hm]
  by_cases hw : s.seq = .writeOutput
  · simp [(State.tick_of_writeOutput hw h).2, State.widthsRead, hw]
  exact (State.tick_advances hi hd hw h).bitPos

/-! ## Every transition keeps the invariant -/

theorem cursorAt_le (m : Fin 8) (q : Seq) : cursorAt m q ≤ 128 := by
  cases q <;> decide +revert

/-- A decode in a valid mode, its buffer canonical, meets the invariant. -/
theorem State.Decoding.inv {m : Fin 8} {s : State} (d : s.Decoding m) (hb : s.dest.Inside s.destLen)
    (hi : s.seq ≠ .idle) (hd : s.seq ≠ .detectMode) : s.Inv = true :=
  s.inv_iff.mpr ⟨hb, d.bitPos ▸ cursorAt_le m s.seq, (State.phaseSound_iff hi hd).mpr (.inr ⟨m, d⟩)⟩

theorem State.inv_of_idle {s : State} (hi : s.seq = .idle) (hb : s.dest.Inside s.destLen) (hp : s.bitPos ≤ 128) :
    s.Inv = true :=
  s.inv_iff.mpr ⟨hb, hp, State.phaseSound_of_idle hi⟩

theorem State.accept_inv {s : State} (hs : s.Inv = true) (r : Request) (rest : List Request) :
    (s.accept r rest).Inv = true := by
  obtain ⟨hb, -, -⟩ := s.inv_iff.mp hs
  exact (State.inv_iff _).mpr ⟨hb, Nat.zero_le _, (State.phaseSound_detectMode rfl).mpr rfl⟩

theorem State.clearCompletion_inv {s : State} (hs : s.Inv = true) : s.clearCompletion.Inv = true := hs

theorem State.detectState_inv {s : State} (hs : s.Inv = true) : s.detectState.Inv = true := by
  obtain ⟨hb, hp, -⟩ := s.inv_iff.mp hs
  cases hm : detect s.blk with
  | reserved =>
    rw [State.detectState_reserved hm]
    refine (State.inv_iff _).mpr ⟨hb, hp, (State.phaseSound_iff (by simp) (by simp)).mpr (.inl ⟨rfl, rfl, fun i => ?_⟩)⟩
    simp
  | valid m =>
    rw [State.detectState_valid hm]
    exact State.Decoding.inv (m := m) ⟨rfl, rfl, rfl, .inl rfl⟩ hb nofun nofun

/-- Where the decode writes its output it is over, and its bytes lie in the buffer (R92). -/
theorem State.written_inv {s : State} (hb : s.dest.Inside s.destLen) (hp : s.bitPos ≤ 128) (hd : s.dutiesMet = true) :
    s.written.Inv = true := by
  obtain ⟨hf, -⟩ := Bool.and_eq_true_iff.mp hd
  exact State.inv_of_idle rfl (hb.writePixels hf) hp

/-- A valid mode's decode goes on to the next state of the order, sound there. -/
theorem State.Decoding.advances {m : Fin 8} {s t : State} (d : s.Decoding m) (a : s.Advances t) (hi : s.seq ≠ .idle)
    (hd : s.seq ≠ .detectMode) (hw : s.seq ≠ .writeOutput) : t.Decoding m where
  mode := a.mode.trans d.mode
  desc := a.desc.trans d.desc
  bitPos := by rw [a.bitPos, d.bitPos_add_widthsRead hi hd hw, a.seq]
  header := .inr (a.header d.header)

theorem State.Advances.seq_ne {s t : State} (a : s.Advances t) (hi : s.seq ≠ .idle) (hw : s.seq ≠ .writeOutput) :
    t.seq ≠ .idle ∧ t.seq ≠ .detectMode := by
  rw [a.seq]
  cases hq : s.seq <;> simp [Seq.following, hq] at hi hw ⊢

/-- Every transition of the sequencer keeps the invariant (R250). -/
theorem State.tick_inv {s t : State} (hs : s.Inv = true) (h : s.tick = .next t) : t.Inv = true := by
  obtain ⟨hb, hp, -⟩ := s.inv_iff.mp hs
  by_cases hi : s.seq = .idle
  · rcases State.tick_of_idle hi h with rfl | ⟨r, rest, rfl⟩
    · exact State.clearCompletion_inv hs
    · exact State.accept_inv hs r rest
  by_cases hd : s.seq = .detectMode
  · exact State.tick_of_detectMode hd h ▸ State.detectState_inv hs
  by_cases hw : s.seq = .writeOutput
  · obtain ⟨hduty, rfl⟩ := State.tick_of_writeOutput hw h
    exact State.written_inv hb hp hduty
  have a := State.tick_advances hi hd hw h
  obtain ⟨m, d⟩ := State.decoding_of_inv hs hi hd hw
  obtain ⟨hti, htd⟩ := a.seq_ne hi hw
  exact (d.advances a hi hd hw).inv (by rwa [a.dest, a.destLen]) hti htd

/-- A run of transitions keeps the invariant and the length of the buffer. -/
theorem State.ticks_inv {k : Nat} {s t : State} (hs : s.Inv = true) (h : s.ticks k = .next t) :
    t.Inv = true ∧ t.destLen = s.destLen := by
  induction k generalizing s with
  | zero => cases h; exact ⟨hs, rfl⟩
  | succ k ih =>
    unfold State.ticks at h
    split at h
    · cases h; exact ⟨hs, rfl⟩
    · split at h
      · rename_i u hu
        obtain ⟨ht, hl⟩ := ih (State.tick_inv hs hu) h
        exact ⟨ht, hl.trans (State.tick_destLen hu)⟩
      · cases h
      · cases h

/-! ## Reset and whole decodes keep it -/

theorem State.resetRegisters_inv {s : State} {m : Memory} (hm : m.Inside s.destLen) : (s.resetRegisters m).Inv = true :=
  State.inv_of_idle rfl hm (Nat.zero_le _)

/-- Reset keeps it: inside a decode each byte of the mix is a prior one or one of the decode run to its end (R301). -/
theorem State.resetUnit_inv {s t : State} (hs : s.Inv = true) (h : s.resetUnit = .next t) : t.Inv = true := by
  obtain ⟨hb, -, -⟩ := s.inv_iff.mp hs
  rcases State.resetUnit_next h with ⟨-, rfl⟩ | ⟨-, d, hd, rfl⟩
  · exact State.resetRegisters_inv hb
  · obtain ⟨hdi, hdl⟩ := State.ticks_inv hs hd
    obtain ⟨hdb, -, -⟩ := d.inv_iff.mp hdi
    exact State.resetRegisters_inv ((hdl ▸ hdb).mixBytes hb _ _)

/-- Every instruction ends in `WriteOutput` on the buffer it was given, with the cursor in the block (R252, R261). -/
theorem exec_eq_writeOutput (i : Instr) (s : State) :
    ∃ u : State, exec i s = u.writeOutput ∧ u.dest = s.dest ∧ u.destLen = s.destLen ∧ u.bitPos ≤ 128 := by
  cases i with
  | reserved => exact ⟨_, rfl, rfl, rfl, Nat.zero_le _⟩
  | _ => exact ⟨_, rfl, by simp, by simp, by simp [Config.blockBits]⟩

theorem exec_inv {i : Instr} {s t : State} (hs : s.Inv = true) (h : exec i s = .next t) : t.Inv = true := by
  obtain ⟨hb, -, -⟩ := s.inv_iff.mp hs
  obtain ⟨u, hu, hdest, hlen, hp⟩ := exec_eq_writeOutput i s
  obtain ⟨hduty, rfl⟩ := State.writeOutput_next (hu ▸ h)
  exact State.written_inv (by rwa [hdest, hlen]) hp hduty

theorem State.transaction_inv {s t : State} (hs : s.Inv = true) (h : s.transaction = .next t) : t.Inv = true := by
  unfold State.transaction at h
  split at h
  · cases h; exact State.clearCompletion_inv hs
  · split at h
    · cases h
    · exact exec_inv (State.accept_inv hs _ _) h

/-- Every step keeps the invariant: reset, a whole decode, or one transition. -/
theorem step_inv {s t : State} (hs : s.Inv = true) (h : step s = .next t) : t.Inv = true := by
  unfold step at h
  split at h
  · exact State.resetUnit_inv hs h
  · split at h
    · exact State.transaction_inv hs h
    · exact State.tick_inv hs h

/-- Settles O57, by `step_inv`. -/
theorem stepKeepsTheInvariant : Obligations.StepKeepsTheInvariant :=
  fun _ _ hs h => step_inv hs h

/-! ## The cursor advances by the fields read -/

/-- After the indices the cursor is at the end of the block (R104). -/
theorem State.tick_bitPos_readIndices {s t : State} (hs : s.Inv = true) (hq : s.seq = .readIndices)
    (h : s.tick = .next t) : t.bitPos = 128 := by
  have hi : s.seq ≠ .idle := by simp [hq]
  have hd : s.seq ≠ .detectMode := by simp [hq]
  have hw : s.seq ≠ .writeOutput := by simp [hq]
  obtain ⟨m, d⟩ := State.decoding_of_inv hs hi hd hw
  rw [State.tick_bitPos hs hi h, d.bitPos_add_widthsRead hi hd hw, hq]
  rfl

/-- Settles O13: the widths read in each state, and the invariant after the transition for the bound. -/
theorem cursorAdvancesByFieldsRead : Obligations.CursorAdvancesByFieldsRead := by
  intro s t hs hi h
  have hpos := State.tick_bitPos hs hi h
  obtain ⟨-, hle, -⟩ := t.inv_iff.mp (State.tick_inv hs h)
  refine ⟨by omega, hle, fun hq => ⟨fun m hm => ?_, fun hm => ?_⟩, fun hq => ?_, fun hq => ?_, fun hq => ?_,
    fun hq => State.tick_bitPos_readIndices hs hq h, fun hq => ?_⟩
  · simpa [State.widthsRead, hq, hm] using hpos
  · simpa [State.widthsRead, hq, hm] using hpos
  · simpa [State.widthsRead, hq, Nat.add_assoc] using hpos
  · simpa [State.widthsRead, hq, endpointWidths_sum] using hpos
  · obtain ⟨m, d⟩ := State.decoding_of_inv hs hi (by simp [hq]) (by simp [hq])
    simpa [State.widthsRead, hq, d.desc, pbitWidths_sum, Nat.add_assoc] using hpos
  · rcases hq with hq | hq | hq | hq <;> simpa [State.widthsRead, hq] using hpos

end Sys2Proof.Machine
end

section
/-! PROOFS. The block as a bit stream and as bytes (R81, R82, R140), and the pixel writes of a decode as an action on
`destRGBA` (R86, R93). -/

namespace Sys2Proof

/-! ## The block as a bit stream (R81, R82) -/

/-- The top bit of a number's low n + 1 bits adds its own weight. -/
theorem mod_two_pow_succ_eq (x n : Nat) : x % 2 ^ (n + 1) = x % 2 ^ n + (x.testBit n).toNat * 2 ^ n := by
  rw [Nat.mod_pow_succ, Nat.toNat_testBit, Nat.mul_comm]

/-- A field is the sum of its stream bits by weight (R82). -/
theorem toNat_field_eq_sum (blk : Block) (pos n : Nat) :
    (field blk pos n).toNat = ((List.range n).map fun k => (blk.getLsbD (pos + k)).toNat * 2 ^ k).sum := by
  rw [toNat_field]
  induction n with
  | zero => simp [Nat.mod_one]
  | succ n ih =>
    have hbit : (blk.toNat / 2 ^ pos).testBit n = blk.getLsbD (pos + n) := by
      rw [Nat.testBit_div_two_pow, Nat.add_comm]; rfl
    rw [List.range_succ, List.map_append, List.sum_append, mod_two_pow_succ_eq, ih, hbit]
    simp

/-- Outside its domain `readBits` reads nothing (R140, 92 D16). -/
theorem readBits_eq_none {blk : Block} {pos n : Nat} (h : 32 < n ∨ 128 < pos + n) : readBits blk pos n = none := by
  rw [readBits, if_neg]
  simp only [Config.maxReadBits, Config.blockBits]
  omega

/-- Settles O7: within its domain `readBits` is the field, and the field is the sum. -/
theorem readBitsSumsStreamBits : Obligations.ReadBitsSumsStreamBits :=
  ⟨fun blk pos n hn hp => by rw [readBits_eq_some hn hp, toNat_field_eq_sum], fun _ _ _ h => readBits_eq_none h⟩

/-! ## The block as bytes (R81) -/

/-- Bit k of bytes laid end to end, the first lowest, is bit k mod 8 of byte k div 8. -/
theorem testBit_foldr_bytes (bytes : List Byte) (k : Nat) :
    (bytes.foldr (fun (b : Byte) acc => b.toNat + 256 * acc) 0).testBit k = (bytes.getD (k / 8) 0).getLsbD (k % 8) := by
  induction bytes generalizing k with
  | nil => simp
  | cons b bytes ih =>
    have hsplit := Nat.testBit_two_pow_mul_add (bytes.foldr (fun (b : Byte) acc => b.toNat + 256 * acc) 0) b.isLt k
    rw [List.foldr_cons, Nat.add_comm]
    refine hsplit.trans ?_
    split
    · rename_i hk
      rw [Nat.div_eq_of_lt hk, Nat.mod_eq_of_lt hk]; rfl
    · rename_i hk
      obtain ⟨j, rfl⟩ := Nat.exists_eq_add_of_le' (Nat.not_lt.mp hk)
      simp [ih]

theorem getLsbD_blockOfBytes (bytes : List Byte) {k : Nat} (hk : k < 128) :
    (blockOfBytes bytes).getLsbD k = (bytes.getD (k / 8) 0).getLsbD (k % 8) := by
  rw [blockOfBytes, BitVec.getLsbD_ofNat, testBit_foldr_bytes, decide_eq_true hk, Bool.true_and]

theorem length_bytesOfBlock (blk : Block) : (bytesOfBlock blk).length = 16 := by simp [bytesOfBlock, Config.blockBytes]

theorem getD_bytesOfBlock (blk : Block) {j : Nat} (hj : j < 16) :
    (bytesOfBlock blk).getD j 0 = field blk (8 * j) 8 := by
  simp [bytesOfBlock, Config.blockBytes, List.getD, hj]

/-- The 16 bytes of a block make that block (R81). -/
theorem blockOfBytes_bytesOfBlock (blk : Block) : blockOfBytes (bytesOfBlock blk) = blk := by
  refine BitVec.eq_of_getLsbD_eq fun k hk => ?_
  rw [getLsbD_blockOfBytes _ hk, getD_bytesOfBlock blk (by omega), getLsbD_field, Nat.div_add_mod]
  simp [Nat.mod_lt]

/-- Settles O8: both directions, bit by bit. -/
theorem blockBitsAreByteBits : Obligations.BlockBitsAreByteBits :=
  ⟨fun bytes _ _ hk => getLsbD_blockOfBytes bytes hk,
    fun blk => ⟨length_bytesOfBlock blk, blockOfBytes_bytesOfBlock blk⟩⟩

end Sys2Proof

namespace Sys2Proof.Machine

/-! ## The pixel writes of a decode (R86, R93) -/

theorem mem_pixelNumbers (i : Fin 16) : i ∈ pixelNumbers := List.mem_finRange i

/-- A byte of the footprint is one of the four of an in-bounds pixel (R264). -/
theorem State.inFootprint_iff (s : State) (a : Nat) :
    s.inFootprint a = true ↔ ∃ i : Fin 16, s.inBounds i = true ∧ ∃ k, k < 4 ∧ a = s.pixelOffset i + k := by
  simp only [State.inFootprint, List.any_eq_true, Bool.and_eq_true, decide_eq_true_eq, mem_pixelNumbers, true_and]
  refine exists_congr fun i => ⟨fun ⟨⟨hb, hle⟩, hlt⟩ => ⟨hb, a - s.pixelOffset i, by omega, by omega⟩, ?_⟩
  rintro ⟨hb, k, hk, rfl⟩
  exact ⟨⟨hb, by omega⟩, by omega⟩

/-- A pixel out of bounds is not written, and that is no error (R86). -/
theorem State.writePixel_of_not_inBounds {s : State} {i : Fin 16} (h : s.inBounds i = false) (m : Memory) :
    s.writePixel m i = m := by
  simp [State.writePixel, h]

/-- Distinct in-bounds pixels have no byte in common: their offsets are distinct multiples of 4 (R87, R93). -/
theorem State.pixelOffset_apart (s : State) {i j : Fin 16} (hi : s.inBounds i = true) (hj : s.inBounds j = true)
    (hne : i ≠ j) {k : Nat} (hk : k < 4) :
    s.pixelOffset i + k < s.pixelOffset j ∨ s.pixelOffset j + 4 ≤ s.pixelOffset i + k := by
  have hoff : s.pixelOffset i ≠ s.pixelOffset j := fun h => hne (s.pixelOffset_injective hi hj h)
  unfold State.pixelOffset at *
  omega

/-- Whatever the order, byte k of a pixel's word stands at its offset + k once the order has reached the pixel. -/
theorem State.read_writePixels (s : State) {order : List (Fin 16)} {i : Fin 16} (hi : i ∈ order)
    (hb : s.inBounds i = true) (m : Memory) {k : Nat} (hk : k < 4) :
    (s.writePixels order m).read (s.pixelOffset i + k) = some ((rgbaWord s.px[i]).extractLsb' (8 * k) 8) := by
  induction order generalizing m with
  | nil => cases hi
  | cons j order ih =>
    by_cases hmem : i ∈ order
    · exact ih hmem (s.writePixel m j)
    · obtain rfl : i = j := (List.mem_cons.mp hi).resolve_right hmem
      have hrest : ∀ j ∈ order, s.inBounds j →
          s.pixelOffset i + k < s.pixelOffset j ∨ s.pixelOffset j + 4 ≤ s.pixelOffset i + k :=
        fun j hj hbj => s.pixelOffset_apart hb hbj (fun h => hmem (h ▸ hj)) hk
      calc (s.writePixels (i :: order) m).read (s.pixelOffset i + k)
          = (s.writePixel m i).read (s.pixelOffset i + k) := s.read_writePixels_other order _ _ hrest
        _ = some ((rgbaWord s.px[i]).extractLsb' (8 * k) 8) := by
          rw [State.writePixel, if_pos hb, Memory.read_write4 _ _ _ hk]

/-- In an order that has all 16 pixels, a byte of the footprint depends neither on the order nor on what was there. -/
theorem State.read_writePixels_inside (s : State) {order : List (Fin 16)} (ho : ∀ i, i ∈ order) (m n : Memory) {a : Nat}
    (ha : s.inFootprint a = true) :
    (s.writePixels order m).read a = (s.writePixels pixelNumbers n).read a := by
  obtain ⟨i, hb, k, hk, rfl⟩ := (s.inFootprint_iff a).mp ha
  rw [s.read_writePixels (ho i) hb m hk, s.read_writePixels (mem_pixelNumbers i) hb n hk]

/-- Outside the footprint no order writes. -/
theorem State.read_writePixels_of_not_inFootprint (s : State) (order : List (Fin 16)) (m : Memory) {a : Nat}
    (ha : s.inFootprint a = false) : (s.writePixels order m).read a = m.read a := by
  refine s.read_writePixels_other order m a fun i _ hb => ?_
  by_contra hc
  have hin : s.inFootprint a = true := (s.inFootprint_iff a).mpr ⟨i, hb, a - s.pixelOffset i, by omega, by omega⟩
  simp [ha] at hin

/-- Writing the pixels a second time changes nothing (R90). -/
theorem State.writePixels_idem (s : State) {m : Memory} (hm : m.wf = true) :
    s.writePixels pixelNumbers (s.writePixels pixelNumbers m) = s.writePixels pixelNumbers m := by
  have hm' := s.writePixels_wf pixelNumbers hm
  refine Memory.ext_of_read (s.writePixels_wf pixelNumbers hm') hm' fun a => ?_
  cases ha : s.inFootprint a with
  | true => exact s.read_writePixels_inside mem_pixelNumbers _ _ ha
  | false => exact s.read_writePixels_outside _ ha

/-- Settles O42: both buffers are canonical and read alike, in the footprint and outside. -/
theorem writeOrderCannotBeObserved : Obligations.WriteOrderCannotBeObserved := by
  intro s order m hm hperm
  have hall : ∀ i, i ∈ order := fun i => hperm.mem_iff.mpr (mem_pixelNumbers i)
  refine Memory.ext_of_read (s.writePixels_wf order hm) (s.writePixels_wf pixelNumbers hm) fun a => ?_
  cases ha : s.inFootprint a with
  | true => exact s.read_writePixels_inside hall m m ha
  | false => rw [s.read_writePixels_of_not_inFootprint order m ha, s.read_writePixels_outside m ha]

end Sys2Proof.Machine
end

section
/-! PROOFS. What an instruction does to `destRGBA` (R86, R263): its pixels depend on the block alone (R265), its
writes on the latched request. So each word lands at its offset, and a repeated decode changes nothing (R90). -/

namespace Sys2Proof.Machine

/-! ## What an instruction keeps -/

/-- t has the latched request, the port, the duties' inputs and the reset input of s. -/
structure State.SameTarget (s t : State) : Prop where
  requests : t.requests = s.requests
  blockX : t.blockX = s.blockX
  blockY : t.blockY = s.blockY
  imageWidth : t.imageWidth = s.imageWidth
  imageHeight : t.imageHeight = s.imageHeight
  destLen : t.destLen = s.destLen
  inFlight : t.inFlight = s.inFlight
  resetIn : t.resetIn = s.resetIn

theorem State.SameTarget.region {s t : State} (h : s.SameTarget t) : t.region = s.region := by
  simp only [State.region, h.blockX, h.blockY, h.imageWidth, h.imageHeight]

theorem State.SameTarget.dutiesMet {s t : State} (h : s.SameTarget t) : t.dutiesMet = s.dutiesMet :=
  State.dutiesMet_congr h.blockX h.blockY h.imageWidth h.imageHeight h.destLen h.inFlight

theorem State.written_sameTarget (s : State) : s.SameTarget s.written := ⟨rfl, rfl, rfl, rfl, rfl, rfl, rfl, rfl⟩

theorem State.SameTarget.trans {s t u : State} (h : s.SameTarget t) (h' : t.SameTarget u) : s.SameTarget u :=
  ⟨h'.requests.trans h.requests, h'.blockX.trans h.blockX, h'.blockY.trans h.blockY, h'.imageWidth.trans h.imageWidth,
    h'.imageHeight.trans h.imageHeight, h'.destLen.trans h.destLen, h'.inFlight.trans h.inFlight,
    h'.resetIn.trans h.resetIn⟩

/-- Every instruction ends in `WriteOutput`, to the target and on the buffer it was given (R252, R261). -/
theorem exec_writesTarget (i : Instr) (s : State) :
    ∃ u : State, exec i s = u.writeOutput ∧ s.SameTarget u ∧ u.dest = s.dest := by
  cases i <;> exact ⟨_, rfl, by constructor <;> simp, by simp⟩

/-- Within the duties every instruction completes: a pixel out of bounds is no error (R86). -/
theorem exec_completes (i : Instr) {s : State} (h : s.dutiesMet = true) : ∃ t, exec i s = .next t := by
  obtain ⟨u, hu, htarget, -⟩ := exec_writesTarget i s
  exact ⟨u.written, hu.trans (State.writeOutput_eq_next (htarget.dutiesMet.trans h))⟩

/-- The writes of a decode depend on its region and its pixels alone. -/
theorem State.writePixels_congr {s t : State} (hr : t.region = s.region) (hp : t.px = s.px) (order : List (Fin 16)) :
    t.writePixels order = s.writePixels order := by
  simp only [State.region, Region.mk.injEq] at hr
  obtain ⟨hx, hy, hw, hh⟩ := hr
  have hX : t.pixelX = s.pixelX := by funext i; rw [State.pixelX, State.pixelX, hx]
  have hY : t.pixelY = s.pixelY := by funext i; rw [State.pixelY, State.pixelY, hy]
  have hb : t.inBounds = s.inBounds := by funext i; rw [State.inBounds, State.inBounds, hX, hY, hw, hh]
  have ho : t.pixelOffset = s.pixelOffset := by funext i; rw [State.pixelOffset, State.pixelOffset, hX, hY, hw]
  have hpixel : t.writePixel = s.writePixel := by
    funext m i
    simp only [State.writePixel, hb, ho, hp]
  funext m
  rw [State.writePixels, State.writePixels, hpixel]

/-- Everything an instruction that completes does outside its working registers. -/
theorem exec_next {i : Instr} {s t : State} (h : exec i s = .next t) :
    s.dutiesMet = true ∧ s.SameTarget t ∧ t.seq = .idle ∧ t.dest = t.writePixels pixelNumbers s.dest := by
  obtain ⟨u, hu, htarget, hdest⟩ := exec_writesTarget i s
  obtain ⟨hd, rfl⟩ := State.writeOutput_next (hu ▸ h)
  refine ⟨htarget.dutiesMet ▸ hd, htarget.trans u.written_sameTarget, rfl, ?_⟩
  rw [State.written_dest, hdest]
  rfl

/-! ## The pixels depend on the block alone (R265) -/

/-- A pixel's subset is one of its mode's (R160). -/
theorem subsetAt_lt (ns : Subsets) (p : BitVec 6) (i : Fin 16) : (Rom.subsetAt ns p i).val < ns.count := by
  cases ns with
  | one => exact Nat.one_pos
  | two => exact (Nat.mod_le _ 3).trans_lt (Nat.mod_lt _ Nat.two_pos)
  | three => exact (Rom.p3 p i).isLt

/-- What the blend reads is the same in two states: the descriptor, the header, the indices of the mode's sets, and the
endpoints of the mode's subsets, in which the pixels are. -/
structure State.SameShading (s t : State) : Prop where
  desc : t.desc = s.desc
  rotation : t.rotation = s.rotation
  idxSel : t.idxSel = s.idxSel
  subsetOf : t.subsetOf = s.subsetOf
  subsetOf_lt : ∀ i : Fin 16, (s.subsetOf[i]).val < s.desc.ns.count
  ep : ∀ e : Fin 6, e.val < s.desc.ne → t.ep[e] = s.ep[e]
  idx1 : t.idx1 = s.idx1
  idx2 : s.desc.ib2 = none ∨ t.idx2 = s.idx2

theorem State.SameShading.loEndpoint {s t : State} (h : s.SameShading t) (i : Fin 16) :
    t.loEndpoint i = s.loEndpoint i := by
  simp only [State.loEndpoint, h.subsetOf]
  exact h.ep ⟨2 * (s.subsetOf[i]).val, by omega⟩ (Nat.mul_lt_mul_of_pos_left (h.subsetOf_lt i) Nat.two_pos)

theorem State.SameShading.hiEndpoint {s t : State} (h : s.SameShading t) (i : Fin 16) :
    t.hiEndpoint i = s.hiEndpoint i := by
  have hlt := h.subsetOf_lt i
  simp only [State.hiEndpoint, h.subsetOf]
  exact h.ep ⟨2 * (s.subsetOf[i]).val + 1, by omega⟩ (by simp only [ModeDesc.ne]; omega)

/-- The secondary index of a mode with one index set is not looked at (R223). -/
theorem weightsOf_of_one_set {d : ModeDesc} (h : d.ib2 = none) (sel : BitVec 1) (v : BitVec 4) (w w' : BitVec 3) :
    weightsOf d sel v w = weightsOf d sel v w' := by
  simp only [weightsOf, h]

theorem State.SameShading.blendedPixel {s t : State} (h : s.SameShading t) (i : Fin 16) :
    t.blendedPixel i = s.blendedPixel i := by
  have hw : weightsOf s.desc s.idxSel s.idx1[i] t.idx2[i] = weightsOf s.desc s.idxSel s.idx1[i] s.idx2[i] :=
    h.idx2.elim (fun hn => weightsOf_of_one_set hn _ _ _ _) fun he => by rw [he]
  simp only [State.blendedPixel, h.desc, h.idxSel, h.idx1, h.loEndpoint, h.hiEndpoint, hw]

theorem State.SameShading.decoded_px {s t : State} (h : s.SameShading t) : t.decoded.px = s.decoded.px := by
  refine Vector.ext fun i hi => ?_
  calc t.decoded.px[i] = rotate t.rotation (t.blendedPixel ⟨i, hi⟩) := t.decoded_px ⟨i, hi⟩
    _ = rotate s.rotation (s.blendedPixel ⟨i, hi⟩) := by rw [h.rotation, h.blendedPixel]
    _ = s.decoded.px[i] := (s.decoded_px ⟨i, hi⟩).symm

/-- The pixels of a decode are a function of its instruction: no register it does not write is read (R265). -/
theorem exec_px_congr {i : Instr} {s s' t t' : State} (h : exec i s = .next t) (h' : exec i s' = .next t') :
    t'.px = t.px := by
  cases i
  case reserved =>
    obtain ⟨-, rfl⟩ := State.writeOutput_next h
    obtain ⟨-, rfl⟩ := State.writeOutput_next h'
    rfl
  all_goals
    obtain ⟨-, rfl⟩ := State.finishDecode_next h
    obtain ⟨-, rfl⟩ := State.finishDecode_next h'
    refine State.SameShading.decoded_px ?_
    constructor
    case subsetOf_lt => simp [subsetAt_lt]
    -- Each endpoint is dequantized from operands; a raw alpha or p-bit that the mode lacks is not looked at (R184).
    case ep => simp +contextual [Rom.mode, ModeDesc.ne, Subsets.count, dqEndpoint, pOf]
    all_goals simp [Rom.mode]

/-! ## Words at their offsets (R84, R86), and the same words again (R90) -/

/-- The word of a pixel is the sum of its channels by weight (R84). -/
theorem toNat_rgbaWord (p : Rgba) :
    (rgbaWord p).toNat = p.r.toNat + p.g.toNat * 2 ^ 8 + p.b.toNat * 2 ^ 16 + p.a.toNat * 2 ^ 24 := by
  simp only [rgbaWord, BitVec.toNat_append]
  rw [← Nat.shiftLeft_add_eq_or_of_lt p.r.isLt, ← Nat.shiftLeft_add_eq_or_of_lt p.g.isLt,
    ← Nat.shiftLeft_add_eq_or_of_lt p.b.isLt]
  simp only [Nat.shiftLeft_eq]
  ring

/-- Byte k of a word. -/
theorem extractLsb'_byte (v : BitVec 32) (k : Nat) :
    v.extractLsb' (8 * k) 8 = BitVec.ofNat 8 (v.toNat / 2 ^ (8 * k)) := by
  rw [BitVec.extractLsb', Nat.shiftRight_eq_div_pow]

theorem State.inBounds_iff (s : State) (i : Fin 16) : s.inBounds i = true ↔
    s.blockX * 4 + i.val % 4 < s.imageWidth ∧ s.blockY * 4 + i.val / 4 < s.imageHeight := by
  rw [State.inBounds, Bool.and_eq_true, decide_eq_true_eq, decide_eq_true_eq]
  rfl

/-- Settles O40: the buffer is that of the pixel writes, whose target is the latched request of the state before. -/
theorem pixelWordsLandAtTheirOffsets : Obligations.PixelWordsLandAtTheirOffsets := by
  refine ⟨fun i s h => exec_completes i h, fun i s t h k => ⟨fun hx hy j hj => ?_, fun hout m => ?_⟩⟩
  · obtain ⟨-, htarget, -, hdest⟩ := exec_next h
    have hb : t.inBounds k = true := by
      rw [t.inBounds_iff, htarget.blockX, htarget.blockY, htarget.imageWidth, htarget.imageHeight]
      exact ⟨hx, hy⟩
    have hread := t.read_writePixels (mem_pixelNumbers k) hb s.dest hj
    rw [← hdest, extractLsb'_byte, toNat_rgbaWord, State.pixelOffset, State.pixelX, State.pixelY, htarget.blockX,
      htarget.blockY, htarget.imageWidth] at hread
    exact hread
  · exact s.writePixel_of_not_inBounds (Bool.eq_false_iff.mpr fun hb => hout ((s.inBounds_iff k).mp hb)) m

/-- Settles O47: the second decode has the pixels and the target of the first, and writing twice is writing once. -/
theorem repeatedDecodeChangesNothing : Obligations.RepeatedDecodeChangesNothing := by
  intro i s t hwf h
  obtain ⟨hd, hst, -, hdest⟩ := exec_next h
  obtain ⟨u, hu⟩ := exec_completes i (hst.dutiesMet.trans hd)
  obtain ⟨-, htu, -, hudest⟩ := exec_next hu
  have hpx : u.px = t.px := exec_px_congr h hu
  refine ⟨u, hu, ?_, hpx⟩
  rw [hudest, State.writePixels_congr htu.region hpx, hdest]
  exact t.writePixels_idem hwf

end Sys2Proof.Machine
end

section
/-! PROOFS. Decodes that share `destRGBA` (R94, R95, R294): what a decode does to the buffer, as a function of it,
and that such functions commute where the footprints have no byte in common. -/

namespace Sys2Proof.Machine

/-! ## Functions on the buffer that act inside a set of bytes -/

/-- f keeps the canonical form, touches only bytes that `inside` picks, and what it leaves in a byte depends on no other
byte. -/
structure ActsWithin (inside : Nat → Bool) (f : Memory → Memory) : Prop where
  wf : ∀ m : Memory, m.wf = true → (f m).wf = true
  outside : ∀ (m : Memory) (a : Nat), inside a = false → (f m).read a = m.read a
  bytewise : ∀ (m n : Memory) (a : Nat), m.read a = n.read a → (f m).read a = (f n).read a

theorem actsWithin_id (inside : Nat → Bool) : ActsWithin inside id :=
  ⟨fun _ h => h, fun _ _ _ => rfl, fun _ _ _ h => h⟩

theorem ActsWithin.comp {inside : Nat → Bool} {f g : Memory → Memory} (hf : ActsWithin inside f)
    (hg : ActsWithin inside g) : ActsWithin inside (g ∘ f) where
  wf m hm := hg.wf _ (hf.wf m hm)
  outside m a ha := (hg.outside _ a ha).trans (hf.outside m a ha)
  bytewise m n a h := hg.bytewise _ _ a (hf.bytewise m n a h)

/-- Two such functions commute when no byte is in both their sets: each leaves in its own bytes what it leaves there
without the other (R94). -/
theorem ActsWithin.comm {p q : Nat → Bool} {f g : Memory → Memory} (hf : ActsWithin p f) (hg : ActsWithin q g)
    (hpq : ∀ a, p a = true → q a = false) {m : Memory} (hm : m.wf = true) : f (g m) = g (f m) := by
  refine Memory.ext_of_read (hf.wf _ (hg.wf m hm)) (hg.wf _ (hf.wf m hm)) fun a => ?_
  cases ha : p a with
  | true =>
    have hq := hpq a ha
    rw [hg.outside (f m) a hq]
    exact hf.bytewise _ _ a (hg.outside m a hq)
  | false =>
    rw [hf.outside (g m) a ha]
    exact (hg.bytewise _ _ a (hf.outside m a ha)).symm

theorem State.writePixels_actsWithin (s : State) : ActsWithin s.inFootprint (s.writePixels pixelNumbers) where
  wf _ hm := s.writePixels_wf pixelNumbers hm
  outside m _ ha := s.read_writePixels_outside m ha
  bytewise m n a h := by
    cases ha : s.inFootprint a with
    | true => exact s.read_writePixels_inside mem_pixelNumbers m n ha
    | false => rw [s.read_writePixels_outside m ha, s.read_writePixels_outside n ha, h]

/-- The mix that a reset leaves acts within the footprint where the decode does (R301). -/
theorem State.mixBytes_actsWithin (s : State) {f : Memory → Memory} (hf : ActsWithin s.inFootprint f)
    (pick : Nat → Bool) : ActsWithin s.inFootprint fun m => mixBytes pick (f m) s.footprint m where
  wf _ hm := mixBytes_wf pick _ _ hm
  outside m a ha := by
    rw [read_mixBytes, if_neg fun h => by simp [(s.mem_footprint a).mp h.1] at ha]
  bytewise m n a h := by
    rw [read_mixBytes, read_mixBytes, h, hf.bytewise m n a h]

/-! ## Regions without a byte in common -/

theorem State.mem_region_offsets (s : State) (o : Nat) :
    o ∈ s.region.offsets ↔ ∃ i : Fin 16, s.inBounds i = true ∧ s.pixelOffset i = o := by
  simp only [Region.offsets, List.mem_map, List.mem_filter, mem_pixelNumbers, true_and]
  rfl

theorem State.overlaps_iff (s t : State) : s.region.overlaps t.region = true ↔
    ∃ i j : Fin 16, s.inBounds i = true ∧ t.inBounds j = true ∧ s.pixelOffset i = t.pixelOffset j := by
  simp only [Region.overlaps, List.any_eq_true, List.contains_iff_mem, State.mem_region_offsets]
  constructor
  · rintro ⟨_, ⟨i, hi, rfl⟩, j, hj, he⟩
    exact ⟨i, j, hi, hj, he.symm⟩
  · rintro ⟨i, j, hi, hj, he⟩
    exact ⟨_, ⟨i, hi, rfl⟩, j, hj, he.symm⟩

/-- Regions that do not overlap have no byte in common: every pixel is 4 bytes at a multiple of 4 (R87). -/
theorem State.inFootprint_eq_false_of_not_overlaps {s t : State} (h : s.region.overlaps t.region = false) (a : Nat)
    (ha : s.inFootprint a = true) : t.inFootprint a = false := by
  refine Bool.eq_false_iff.mpr fun hta => Bool.eq_false_iff.mp h ((s.overlaps_iff t).mpr ?_)
  obtain ⟨i, hi, k, hk, rfl⟩ := (s.inFootprint_iff a).mp ha
  obtain ⟨j, hj, k', hk', he⟩ := (t.inFootprint_iff _).mp hta
  refine ⟨i, j, hi, hj, ?_⟩
  unfold State.pixelOffset at *
  omega

/-- In an image of one width an in-bounds offset tells its block (R85). -/
theorem State.block_eq_of_pixelOffset_eq {s t : State} {i j : Fin 16} (hw : s.imageWidth = t.imageWidth)
    (hi : s.inBounds i = true) (hj : t.inBounds j = true) (h : s.pixelOffset i = t.pixelOffset j) :
    s.blockX = t.blockX ∧ s.blockY = t.blockY := by
  obtain ⟨hxi, -⟩ := (s.inBounds_iff i).mp hi
  obtain ⟨hxj, -⟩ := (t.inBounds_iff j).mp hj
  have hlin : s.pixelX i + s.imageWidth * s.pixelY i = t.pixelX j + s.imageWidth * t.pixelY j := by
    unfold State.pixelOffset at h
    rw [← hw, Nat.mul_comm (s.pixelY i), Nat.mul_comm (t.pixelY j)] at h
    omega
  have hX : s.pixelX i = t.pixelX j := by
    have := congrArg (· % s.imageWidth) hlin
    simpa [Nat.add_mul_mod_self_left, Nat.mod_eq_of_lt, State.pixelX, hxi, hw ▸ hxj] using this
  have hY : s.pixelY i = t.pixelY j := by
    rw [hX] at hlin
    exact Nat.eq_of_mul_eq_mul_left (by omega) (Nat.add_left_cancel hlin)
  unfold State.pixelX at hX
  unfold State.pixelY at hY
  omega

theorem State.not_overlaps_of_distinct_blocks {s t : State} (hw : s.imageWidth = t.imageWidth)
    (h : (s.blockX, s.blockY) ≠ (t.blockX, t.blockY)) : s.region.overlaps t.region = false := by
  refine Bool.eq_false_iff.mpr fun ho => h ?_
  obtain ⟨i, j, hi, hj, he⟩ := (s.overlaps_iff t).mp ho
  obtain ⟨hx, hy⟩ := State.block_eq_of_pixelOffset_eq hw hi hj he
  rw [hx, hy]

/-! ## Two decodes one after the other (R94) -/

/-- t is the state a decode of request r completed in. -/
structure State.HasDecoded (r : Request) (t : State) : Prop where
  exec : ∃ s, exec (decodeBlock (blockOfBytes r.blockBytes)) s = .next t
  blockX : t.blockX = r.blockX
  blockY : t.blockY = r.blockY
  imageWidth : t.imageWidth = r.imageWidth
  imageHeight : t.imageHeight = r.imageHeight

theorem State.HasDecoded.region {r : Request} {t : State} (h : t.HasDecoded r) :
    t.region = ⟨r.blockX, r.blockY, r.imageWidth, r.imageHeight⟩ := by
  rw [State.region, h.blockX, h.blockY, h.imageWidth, h.imageHeight]

/-- Two decodes of one request write the same. -/
theorem State.HasDecoded.writePixels_congr {r : Request} {t u : State} (ht : t.HasDecoded r) (hu : u.HasDecoded r)
    (order : List (Fin 16)) : u.writePixels order = t.writePixels order := by
  obtain ⟨s, hs⟩ := ht.exec
  obtain ⟨s', hs'⟩ := hu.exec
  exact State.writePixels_congr (hu.region.trans ht.region.symm) (exec_px_congr hs hs') order

theorem State.HasDecoded.not_overlaps {q r : Request} {t u : State} (ht : t.HasDecoded q) (hu : u.HasDecoded r)
    (hW : q.imageWidth = r.imageWidth) (hne : (q.blockX, q.blockY) ≠ (r.blockX, r.blockY)) :
    t.region.overlaps u.region = false := by
  refine State.not_overlaps_of_distinct_blocks ?_ ?_
  · rw [ht.imageWidth, hu.imageWidth, hW]
  · rwa [ht.blockX, ht.blockY, hu.blockX, hu.blockY]

/-- A unit that can take the next request: Idle, no reset asked for, no other decode in flight. -/
structure State.Ready (s : State) : Prop where
  seq : s.seq = .idle
  resetIn : s.resetIn = false
  inFlight : s.inFlight = []

/-- From such a unit a step decodes the oldest request and leaves it ready for the next. -/
theorem State.Ready.step {s : State} (hs : s.Ready) {r : Request} {rest : List Request} (hq : s.requests = r :: rest)
    (hb : r.blockBytes.length = 16) (hl : r.imageWidth * r.imageHeight * 4 ≤ s.destLen) :
    ∃ t, step s = .next t ∧ t.HasDecoded r ∧ t.Ready ∧ t.requests = rest ∧ t.destLen = s.destLen ∧
      t.dest = t.writePixels pixelNumbers s.dest := by
  have hd : (s.accept r rest).dutiesMet = true := by
    simp [State.dutiesMet, State.bufferFits, State.footprintFree, hs.inFlight, hl]
  obtain ⟨t, ht⟩ := exec_completes (decodeBlock (blockOfBytes r.blockBytes)) hd
  obtain ⟨-, htarget, hidle, hdest⟩ := exec_next ht
  exact ⟨t, (step_of_request hs.seq hs.resetIn hq hb).trans ht,
    ⟨⟨_, ht⟩, htarget.blockX, htarget.blockY, htarget.imageWidth, htarget.imageHeight⟩,
    ⟨hidle, htarget.resetIn.trans hs.resetIn, htarget.inFlight.trans hs.inFlight⟩, htarget.requests, htarget.destLen,
    hdest⟩

theorem run_two_of_steps {s t u : State} (ht : step s = .next t) (hu : step t = .next u) :
    Host.Core.run Sys2Proof.core 2 s = .next u := by
  have hst : Sys2Proof.core.step s = .next t := ht
  have htu : Sys2Proof.core.step t = .next u := hu
  simp only [Host.Core.run, hst, htu]

/-- Two requests are decoded in two steps, the second onto what the first left. -/
theorem State.Ready.run_two {s : State} (hs : s.Ready) {q r : Request} (hq : s.requests = [q, r])
    (hqb : q.blockBytes.length = 16) (hrb : r.blockBytes.length = 16)
    (hql : q.imageWidth * q.imageHeight * 4 ≤ s.destLen) (hrl : r.imageWidth * r.imageHeight * 4 ≤ s.destLen) :
    ∃ t u : State, Host.Core.run Sys2Proof.core 2 s = .next u ∧ t.HasDecoded q ∧ u.HasDecoded r ∧
      u.dest = u.writePixels pixelNumbers (t.writePixels pixelNumbers s.dest) := by
  obtain ⟨t, ht, htq, hready, hreq, hlen, hdest⟩ := hs.step hq hqb hql
  obtain ⟨u, hu, hur, -, -, -, hudest⟩ := hready.step hreq hrb (hlen ▸ hrl)
  exact ⟨t, u, run_two_of_steps ht hu, htq, hur, hdest ▸ hudest⟩

/-- Settles O43: each order writes both blocks' pixels, and blocks of one image have no byte in common. -/
theorem decodesOfDistinctBlocksCommute : Obligations.DecodesOfDistinctBlocksCommute := by
  intro s q r hi hr hf hwf hqb hrb hW hH hne hl
  have hql : q.imageWidth * q.imageHeight * 4 ≤ s.destLen := by rwa [hW, hH]
  obtain ⟨t₁, t₂, ht, ht₁, ht₂, htd⟩ :=
    State.Ready.run_two (s := { s with requests := [q, r] }) ⟨hi, hr, hf⟩ rfl hqb hrb hql hl
  obtain ⟨u₁, u₂, hu, hu₁, hu₂, hud⟩ :=
    State.Ready.run_two (s := { s with requests := [r, q] }) ⟨hi, hr, hf⟩ rfl hrb hqb hl hql
  refine ⟨t₂, u₂, ht, hu, ?_⟩
  rw [htd, hud, ht₂.writePixels_congr hu₁, ht₁.writePixels_congr hu₂]
  have hno : t₂.region.overlaps t₁.region = false := ht₂.not_overlaps ht₁ hW.symm hne.symm
  exact t₂.writePixels_actsWithin.comm t₁.writePixels_actsWithin (State.inFootprint_eq_false_of_not_overlaps hno) hwf

end Sys2Proof.Machine
end

section
/-! PROOFS. Several units on one `destRGBA` (R294): a move of a busy unit on another buffer and beside other decodes, so
that moves of units with disjoint regions commute (R94) and a write that another decode overlaps is refused (R95). -/

namespace Sys2Proof.Machine

/-! ## A unit on another buffer -/

/-- The unit s on buffer m, beside the decodes in flight into `others`. -/
def State.onBuffer (m : Memory) (others : List Region) (s : State) : State := { s with dest := m, inFlight := others }

section
variable (s : State) (m : Memory) (others : List Region)

@[simp] theorem State.onBuffer_self : s.onBuffer s.dest s.inFlight = s := rfl
@[simp] theorem State.onBuffer_seq : (s.onBuffer m others).seq = s.seq := rfl
@[simp] theorem State.onBuffer_blk : (s.onBuffer m others).blk = s.blk := rfl
@[simp] theorem State.onBuffer_desc : (s.onBuffer m others).desc = s.desc := rfl
@[simp] theorem State.onBuffer_bitPos : (s.onBuffer m others).bitPos = s.bitPos := rfl
@[simp] theorem State.onBuffer_inFlight : (s.onBuffer m others).inFlight = others := rfl
@[simp] theorem State.onBuffer_region : (s.onBuffer m others).region = s.region := rfl
@[simp] theorem State.putCursor_onBuffer (pos : Nat) :
    State.putCursor pos (s.onBuffer m others) = (State.putCursor pos s).onBuffer m others := rfl
@[simp] theorem State.enterMode_onBuffer (k : Fin 8) :
    State.enterMode k (s.onBuffer m others) = (State.enterMode k s).onBuffer m others := rfl
@[simp] theorem State.enterReserved_onBuffer :
    State.enterReserved (s.onBuffer m others) = (State.enterReserved s).onBuffer m others := rfl
@[simp] theorem State.putHeader_onBuffer (p : BitVec 6) (rot : BitVec 2) (sel : BitVec 1) :
    State.putHeader p rot sel (s.onBuffer m others) = (State.putHeader p rot sel s).onBuffer m others := rfl
@[simp] theorem State.putColour_onBuffer (n : Nat) (c : Nat → Colour 8) :
    State.putColour n c (s.onBuffer m others) = (State.putColour n c s).onBuffer m others := rfl
@[simp] theorem State.putAlpha_onBuffer (n : Nat) (a : Nat → Byte) :
    State.putAlpha n a (s.onBuffer m others) = (State.putAlpha n a s).onBuffer m others := rfl
@[simp] theorem State.putPBits_onBuffer (n : Nat) (p : Nat → BitVec 1) :
    State.putPBits n p (s.onBuffer m others) = (State.putPBits n p s).onBuffer m others := rfl
@[simp] theorem State.putSharedPBits_onBuffer (n : Nat) (p : Nat → BitVec 1) :
    State.putSharedPBits n p (s.onBuffer m others) = (State.putSharedPBits n p s).onBuffer m others := rfl
@[simp] theorem State.putIdx1_onBuffer (v : Fin 16 → BitVec 4) :
    State.putIdx1 v (s.onBuffer m others) = (State.putIdx1 v s).onBuffer m others := rfl
@[simp] theorem State.putIdx2_onBuffer (v : Fin 16 → BitVec 3) :
    State.putIdx2 v (s.onBuffer m others) = (State.putIdx2 v s).onBuffer m others := rfl
@[simp] theorem State.dequantize_onBuffer :
    State.dequantize (s.onBuffer m others) = (State.dequantize s).onBuffer m others := rfl
@[simp] theorem State.interpolatePixels_onBuffer :
    State.interpolatePixels (s.onBuffer m others) = (State.interpolatePixels s).onBuffer m others := rfl
@[simp] theorem State.applyRotation_onBuffer :
    State.applyRotation (s.onBuffer m others) = (State.applyRotation s).onBuffer m others := rfl

theorem State.writePixels_onBuffer (order : List (Fin 16)) :
    (s.onBuffer m others).writePixels order = s.writePixels order :=
  State.writePixels_congr rfl rfl order

theorem State.written_onBuffer :
    (s.onBuffer m others).written = s.written.onBuffer (s.writePixels pixelNumbers m) others := by
  rw [State.written, State.writePixels_onBuffer]
  rfl

theorem State.detectState_onBuffer : (s.onBuffer m others).detectState = s.detectState.onBuffer m others := by
  cases hm : detect s.blk with
  | reserved =>
    rw [State.detectState_reserved hm, State.detectState_reserved (s := s.onBuffer m others) hm,
      State.enterReserved_onBuffer]
    rfl
  | valid k =>
    rw [State.detectState_valid hm, State.detectState_valid (s := s.onBuffer m others) hm, State.enterMode_onBuffer,
      State.putCursor_onBuffer]
    rfl

end

/-! ## A transition on another buffer -/

section
variable {s t : State} {m : Memory} {others : List Region}

theorem State.takeThen_onBuffer {ws : List Nat} {g : List Nat → State → State}
    (hg : ∀ vs u, g vs (u.onBuffer m others) = (g vs u).onBuffer m others) (h : s.takeThen ws g = .next t) :
    (s.onBuffer m others).takeThen ws g = .next (t.onBuffer m others) := by
  obtain ⟨vs, hvs, -, rfl⟩ := State.takeThen_next h
  simp [State.takeThen, hvs, hg]

/-- Before `WriteOutput` a busy unit looks at no other unit and at no byte of the buffer (R32). -/
theorem State.tick_onBuffer (hi : s.seq ≠ .idle) (hw : s.seq ≠ .writeOutput) (h : s.tick = .next t) :
    (s.onBuffer m others).tick = .next (t.onBuffer m others) := by
  unfold State.tick at h ⊢
  rw [State.onBuffer_seq]
  cases hq : s.seq <;> simp only [hq] at h ⊢
  case idle => exact absurd hq hi
  case writeOutput => exact absurd hq hw
  case detectMode =>
    cases h
    rw [State.detectState_onBuffer]
  case readPartitionRotationSelector =>
    exact State.takeThen_onBuffer (fun _ _ => by simp only [State.putHeader_onBuffer]; rfl) h
  case readEndpointChannels =>
    refine State.takeThen_onBuffer (fun vs u => ?_) h
    by_cases ha : 0 < u.desc.ab <;>
      simp only [State.putColour_onBuffer, State.putAlpha_onBuffer, State.onBuffer_desc, State.putColour_desc, ha,
        if_true, if_false] <;> rfl
  case readPBits =>
    refine State.takeThen_onBuffer (fun vs u => ?_) h
    by_cases he : u.desc.epb <;> by_cases hs : u.desc.spb <;>
      simp only [State.putPBits_onBuffer, State.putSharedPBits_onBuffer, State.onBuffer_desc, he, hs, if_true] <;> rfl
  case readIndices =>
    refine State.takeThen_onBuffer (fun vs u => ?_) h
    by_cases h2 : u.desc.ib2.isSome <;>
      simp only [State.putIdx1_onBuffer, State.putIdx2_onBuffer, State.onBuffer_desc, State.putIdx1_desc, h2,
        if_true] <;> rfl
  case dequantize =>
    cases h
    rw [State.dequantize_onBuffer]
    rfl
  case interpolatePixels =>
    cases h
    rw [State.interpolatePixels_onBuffer]
    rfl
  case applyRotation =>
    cases h
    rw [State.applyRotation_onBuffer]
    rfl

/-- P2 and P3 on another buffer of the same length (R285, R286). -/
theorem State.dutiesMet_onBuffer (hd : s.dutiesMet = true) (hfree : (s.onBuffer m others).footprintFree = true) :
    (s.onBuffer m others).dutiesMet = true := by
  obtain ⟨hfits, -⟩ := Bool.and_eq_true_iff.mp hd
  exact Bool.and_eq_true_iff.mpr ⟨hfits, hfree⟩

/-- A transition inside a decode keeps the latched request and the caller's side (R97, R251). -/
theorem State.tick_sameTarget (hi : s.seq ≠ .idle) (h : s.tick = .next t) : s.SameTarget t := by
  unfold State.tick at h
  cases hq : s.seq <;> simp only [hq] at h
  case idle => exact absurd hq hi
  case detectMode =>
    cases h
    unfold State.detectState
    split <;> constructor <;> rfl
  case readPartitionRotationSelector =>
    obtain ⟨vs, -, -, rfl⟩ := State.takeThen_next h
    constructor <;> rfl
  case readEndpointChannels | readPBits | readIndices =>
    obtain ⟨vs, -, -, rfl⟩ := State.takeThen_next h
    dsimp only
    split_ifs <;> constructor <;> simp
  case dequantize | interpolatePixels | applyRotation => cases h; constructor <;> simp
  case writeOutput =>
    obtain ⟨-, rfl⟩ := State.writeOutput_next h
    exact s.written_sameTarget

end

/-! ## A move on any buffer, beside any other decodes -/

/-- `run` takes s to t with the effect f on the buffer, and so on every buffer and beside any other decodes, as long as
these leave its footprint free where those of s do. -/
structure State.RunsAs (run : State → Host.Outcome State Fault Refusal) (s t : State) (f : Memory → Memory) : Prop where
  acts : ActsWithin s.inFootprint f
  onBuffer : ∀ (m : Memory) (others : List Region),
    (s.footprintFree = true → (s.onBuffer m others).footprintFree = true) →
    run (s.onBuffer m others) = .next (t.onBuffer (f m) others)

section
variable {s t : State}

theorem State.RunsAs.dest_eq {run : State → Host.Outcome State Fault Refusal} {f : Memory → Memory}
    (h : State.RunsAs run s t f) (hrun : run s = .next t) : t.dest = f s.dest := by
  have hself := h.onBuffer s.dest s.inFlight fun hfree => hfree
  rw [State.onBuffer_self, hrun] at hself
  exact congrArg State.dest (Host.Outcome.next.inj hself)

theorem State.SameTarget.inFootprint (h : s.SameTarget t) : t.inFootprint = s.inFootprint := by
  funext a
  rw [← State.region_covers, ← State.region_covers, h.region]

theorem State.SameTarget.footprintFree (h : s.SameTarget t) : t.footprintFree = s.footprintFree := by
  rw [State.footprintFree, State.footprintFree, h.region, h.inFlight]

theorem State.SameTarget.footprintFree_onBuffer (h : s.SameTarget t) (m n : Memory) (others : List Region) :
    (t.onBuffer n others).footprintFree = (s.onBuffer m others).footprintFree := by
  simp only [State.footprintFree, State.onBuffer_inFlight, State.onBuffer_region, h.region]

/-- A transition inside a decode: the pixel writes at `WriteOutput`, nothing before. -/
theorem State.tick_runsAs (hi : s.seq ≠ .idle) (h : s.tick = .next t) : ∃ f, State.RunsAs State.tick s t f := by
  by_cases hw : s.seq = .writeOutput
  · obtain ⟨hd, rfl⟩ := State.tick_of_writeOutput hw h
    obtain ⟨-, hfree⟩ := Bool.and_eq_true_iff.mp hd
    refine ⟨_, s.writePixels_actsWithin, fun m others hothers => ?_⟩
    simp only [State.tick, State.onBuffer_seq, hw]
    rw [State.writeOutput_eq_next (State.dutiesMet_onBuffer hd (hothers hfree)), State.written_onBuffer]
  · exact ⟨id, actsWithin_id _, fun _ _ _ => State.tick_onBuffer hi hw h⟩

/-- One run after another, on the target of the first. -/
theorem State.ticks_runsAs {k : Nat} (h : s.ticks k = .next t) : ∃ f, State.RunsAs (State.ticks k) s t f := by
  induction k generalizing s with
  | zero => cases h; exact ⟨id, actsWithin_id _, fun _ _ _ => rfl⟩
  | succ k ih =>
    unfold State.ticks at h
    split at h
    · rename_i hi
      cases h
      exact ⟨id, actsWithin_id _, fun _ _ _ => by simp [State.ticks, hi]⟩
    · rename_i hi
      split at h
      · rename_i u hu
        have htarget := State.tick_sameTarget hi hu
        obtain ⟨f, hf⟩ := State.tick_runsAs hi hu
        obtain ⟨g, hg⟩ := ih h
        refine ⟨g ∘ f, hf.acts.comp (htarget.inFootprint ▸ hg.acts), fun m others hothers => ?_⟩
        have hrest := hg.onBuffer (f m) others (by
          rwa [htarget.footprintFree, htarget.footprintFree_onBuffer m])
        simp [State.ticks, hi, hf.onBuffer m others hothers, hrest]
      · cases h
      · cases h

/-- A reset inside a decode: a mix of the decode's bytes into the buffer (R301). -/
theorem State.resetUnit_runsAs (hi : s.seq ≠ .idle) (h : s.resetUnit = .next t) :
    ∃ f, State.RunsAs State.resetUnit s t f := by
  obtain ⟨hidle, -⟩ | ⟨-, d, hd, rfl⟩ := State.resetUnit_next h
  · exact absurd hidle hi
  · obtain ⟨f, hf⟩ := State.ticks_runsAs hd
    refine ⟨_, s.mixBytes_actsWithin hf.acts (Config.freeResetMix s.freeCount), fun m others hothers => ?_⟩
    have hrun : (s.onBuffer m others).runToIdle = _ := hf.onBuffer m others hothers
    simp only [State.resetUnit, State.onBuffer_seq, hi, if_false, hrun]
    rfl

/-- A move of a busy unit: its reset where that is asked for, else a transition (log 21). -/
theorem State.resetOrTick_runsAs (hi : s.seq ≠ .idle) (h : s.resetOrTick = .next t) :
    ∃ f, State.RunsAs State.resetOrTick s t f := by
  cases hr : s.resetIn with
  | true =>
    rw [State.resetOrTick_of_reset hr] at h
    obtain ⟨f, hf⟩ := State.resetUnit_runsAs hi h
    exact ⟨f, hf.acts, fun m others hothers =>
      (State.resetOrTick_of_reset (s := s.onBuffer m others) hr).trans (hf.onBuffer m others hothers)⟩
  | false =>
    rw [State.resetOrTick_of_no_reset hr] at h
    obtain ⟨f, hf⟩ := State.tick_runsAs hi h
    exact ⟨f, hf.acts, fun m others hothers =>
      (State.resetOrTick_of_no_reset (s := s.onBuffer m others) hr).trans (hf.onBuffer m others hothers)⟩

/-- A busy unit that is still busy after its move decodes into the same region: a reset ends the decode. -/
theorem State.resetOrTick_region (hi : s.seq ≠ .idle) (h : s.resetOrTick = .next t) (ht : t.seq ≠ .idle) :
    t.region = s.region := by
  cases hr : s.resetIn with
  | true =>
    rw [State.resetOrTick_of_reset hr] at h
    obtain ⟨-, rfl⟩ | ⟨-, d, -, rfl⟩ := State.resetUnit_next h <;> exact absurd rfl ht
  | false =>
    rw [State.resetOrTick_of_no_reset hr] at h
    exact (State.tick_sameTarget hi h).region

end

/-! ## Moves of a system -/

theorem State.footprintFree_iff (s : State) :
    s.footprintFree = true ↔ ∀ g ∈ s.inFlight, g.overlaps s.region = false := by
  simp [State.footprintFree]

/-- The regions in flight beside unit k are those of the other busy units (R294). -/
theorem System.mem_othersInFlight {y : System} {k : Nat} {g : Region} :
    g ∈ y.othersInFlight k ↔ ∃ i w, i ≠ k ∧ y.units[i]? = some w ∧ w.seq ≠ .idle ∧ w.region = g := by
  simp only [System.othersInFlight, List.mem_map, List.mem_filter, Prod.exists, List.mem_zipIdx_iff_getElem?,
    Bool.and_eq_true, bne_iff_ne]
  constructor
  · rintro ⟨w, i, ⟨hw, hik, hwi⟩, hg⟩
    exact ⟨i, w, hik, hw, hwi, hg⟩
  · rintro ⟨i, w, hik, hw, hwi, hg⟩
    exact ⟨w, i, ⟨hw, hik, hwi⟩, hg⟩

/-- A footprint free in one system is free in another that differs in unit j alone, when that leaves it free. -/
theorem System.footprintFree_attach {y z : System} {j k : Nat} {u : State}
    (hsame : ∀ i, i ≠ j → z.units[i]? = y.units[i]?)
    (hj : ∀ w, z.units[j]? = some w → w.seq ≠ .idle → w.region.overlaps u.region = false)
    (h : (y.attach k u).footprintFree = true) : (z.attach k u).footprintFree = true := by
  rw [State.footprintFree_iff] at h ⊢
  intro g hg
  obtain ⟨i, w, hik, hw, hwi, rfl⟩ := System.mem_othersInFlight.mp hg
  by_cases hij : i = j
  · exact hj w (hij ▸ hw) hwi
  · exact h w.region (System.mem_othersInFlight.mpr ⟨i, w, hik, hsame i hij ▸ hw, hwi, rfl⟩)

/-- A move of unit k in one system is its move in another that holds the same unit, on the other's buffer. -/
theorem System.tick_of_runsAs {y z : System} {k : Nat} {u t : State} {f : Memory → Memory}
    (h : State.RunsAs State.resetOrTick (y.attach k u) t f) (hu : z.units[k]? = some u) (hlen : z.destLen = y.destLen)
    (hfree : (y.attach k u).footprintFree = true → (z.attach k u).footprintFree = true) :
    z.tick k = .next { z with units := z.units.set k t.detach, dest := f z.dest } := by
  have hattach : z.attach k u = (y.attach k u).onBuffer z.dest (z.othersInFlight k) := by
    simp only [System.attach, State.onBuffer, hlen]
  exact System.tick_of_next hu (hattach ▸ h.onBuffer z.dest (z.othersInFlight k) (hattach ▸ hfree))

/-- A move of a busy unit, as the unit's own effect on the buffer. -/
theorem System.tick_busy {y z : System} {k : Nat} {u : State} (hu : y.units[k]? = some u) (hi : u.seq ≠ .idle)
    (h : y.tick k = .next z) :
    ∃ t f, State.RunsAs State.resetOrTick (y.attach k u) t f ∧ (t.seq ≠ .idle → t.region = u.region) ∧
      z = { y with units := y.units.set k t.detach, dest := f y.dest } := by
  obtain ⟨hnone, -⟩ | ⟨u', t, hu', ht, rfl⟩ := System.tick_next h
  · simp [hu] at hnone
  · obtain rfl : u = u' := by simpa [hu] using hu'
    obtain ⟨f, hf⟩ := State.resetOrTick_runsAs (s := y.attach k u) hi ht
    exact ⟨t, f, hf, State.resetOrTick_region (s := y.attach k u) hi ht, by rw [hf.dest_eq ht]; rfl⟩

/-- Settles O44: each unit's move is the same beside the other, before or after the other's, and their effects on the
buffer act within footprints without a byte in common. -/
theorem disjointInstancesCommute : Obligations.DisjointInstancesCommute := by
  intro y a b j k u v hjk hu hv hui hvi huv hvu hwf hj hk
  obtain ⟨t, f, hf, -, rfl⟩ := System.tick_busy hu hui hj
  have hva : (y.units.set j t.detach)[k]? = some v := by rwa [List.getElem?_set_ne hjk]
  obtain ⟨t', g, hg, hregion, rfl⟩ := System.tick_busy hva hvi hk
  have hk' := System.tick_of_runsAs (z := y) hg hv rfl <|
    System.footprintFree_attach (j := j) (fun i hi => (List.getElem?_set_ne hi.symm).symm) fun w hw _ => by
      obtain rfl : u = w := by simpa [hu] using hw
      exact huv
  have huc : (y.units.set k t'.detach)[j]? = some u := by rwa [List.getElem?_set_ne hjk.symm]
  have hj' := System.tick_of_runsAs (z := { y with units := y.units.set k t'.detach, dest := g y.dest }) hf huc rfl <|
    System.footprintFree_attach (j := k) (fun i hi => List.getElem?_set_ne hi.symm) fun w hw hwi => by
      obtain ⟨-, rfl⟩ : _ ∧ t'.detach = w := by simpa [List.getElem?_set] using hw
      rw [State.detach_region, hregion hwi]
      exact hvu
  refine ⟨_, hk', ?_⟩
  rw [hj']
  have hcomm : f (g y.dest) = g (f y.dest) :=
    hf.acts.comm hg.acts (State.inFootprint_eq_false_of_not_overlaps huv) hwf
  simp only [List.set_comm _ _ hjk, hcomm]

/-! ## Overlapping decodes (R95) -/

theorem System.tick_of_refused {y : System} {k : Nat} {u : State} {why : Refusal} (hu : y.units[k]? = some u)
    (h : (y.attach k u).resetOrTick = .refused why) : y.tick k = .refused why := by
  simp [System.tick, hu, h]

/-- A unit whose `WriteOutput` is refused is refused its reset too: the decode it would mix in has no meaning. -/
theorem State.resetOrTick_of_writeOutput_refused {s : State} {why : Refusal} (hq : s.seq = .writeOutput)
    (h : s.writeOutput = .refused why) : s.resetOrTick = .refused why := by
  have htick : s.tick = .refused why := by simp only [State.tick, hq, h]
  cases hr : s.resetIn with
  | true =>
    have hrun : s.runToIdle = .refused why := by simp [State.runToIdle, State.ticks, hq, htick]
    rw [State.resetOrTick_of_reset hr]
    simp [State.resetUnit, hq, hrun]
  | false => rw [State.resetOrTick_of_no_reset hr, htick]

/-- Settles O45: the other's region is in flight beside the unit, so its footprint is not free. -/
theorem overlappingInstancesAreRefused : Obligations.OverlappingInstancesAreRefused := by
  intro y j k u v hjk hu hv hq hvi hover hfits
  have hmem : v.region ∈ y.othersInFlight j := System.mem_othersInFlight.mpr ⟨k, v, hjk.symm, hv, hvi, rfl⟩
  have hbusy : ¬ (y.attach j u).footprintFree = true := fun hfree => by
    have := (State.footprintFree_iff _).mp hfree v.region hmem
    simp [hover] at this
  have hw : (y.attach j u).writeOutput = .refused .footprintInUse := by
    obtain ⟨hd, -⟩ | ⟨hshort, -⟩ | ⟨-, -, he⟩ := (y.attach j u).writeOutput_cases
    · exact absurd (Bool.and_eq_true_iff.mp hd).2 hbusy
    · exact absurd hfits (of_decide_eq_false hshort)
    · exact he
  exact System.tick_of_refused hu (State.resetOrTick_of_writeOutput_refused hq hw)

end Sys2Proof.Machine
end

section
/-! PROOFS. Decoding against encoding (R100 to R108, R120, R265): mode detection as one field, blocks that carry a run
of fields, and the one equivalence both round trips follow from: a block decodes to an instruction exactly when the
instruction is well-formed and its fields stand in the block end to end. -/

namespace Sys2Proof

open Machine

/-! ## The mode (R101, R102, R142) -/

theorem detect_eq_valid_iff_find (blk : Block) (m : Fin 8) :
    detect blk = .valid m ↔ modeNumbers.find? (fun k => blk.getLsbD k.val) = some m := by
  unfold detect
  cases modeNumbers.find? (fun k => blk.getLsbD k.val) <;> simp

theorem getElem_modeNumbers : ∀ (i : Nat) (h : i < modeNumbers.length), (modeNumbers[i]).val = i := by decide

theorem detect_eq_valid_iff (blk : Block) (m : Fin 8) :
    detect blk = .valid m ↔ blk.getLsbD m.val = true ∧ ∀ k, k < m.val → blk.getLsbD k = false := by
  rw [detect_eq_valid_iff_find, List.find?_eq_some_iff_getElem]
  refine and_congr_right fun _ => ⟨?_, fun h => ⟨m.val, m.isLt, Fin.ext (getElem_modeNumbers m m.isLt), ?_⟩⟩
  · rintro ⟨i, hi, rfl, h⟩ k hk
    rw [getElem_modeNumbers] at hk
    simpa [getElem_modeNumbers] using h k hk
  · intro j hj
    simpa [getElem_modeNumbers] using h j hj

theorem detect_eq_reserved_iff (blk : Block) : detect blk = .reserved ↔ ∀ k, k < 8 → blk.getLsbD k = false := by
  have hmem : ∀ k : Fin 8, k ∈ modeNumbers := by decide
  have hfind : detect blk = .reserved ↔ modeNumbers.find? (fun k => blk.getLsbD k.val) = none := by
    unfold detect
    cases modeNumbers.find? (fun k => blk.getLsbD k.val) <;> simp
  rw [hfind, List.find?_eq_none]
  exact ⟨fun h k hk => by simpa using h ⟨k, hk⟩ (hmem _), fun h k _ => by simp [h k.val k.isLt]⟩

/-- The low m + 1 bits of a block of mode m are the field of value 2^m (R101). -/
theorem detect_eq_valid_iff_field (blk : Block) (m : Fin 8) :
    detect blk = .valid m ↔ (field blk 0 (m.val + 1)).toNat = 2 ^ m.val := by
  have hpow : (BitVec.twoPow (m.val + 1) m.val).toNat = 2 ^ m.val := by
    rw [BitVec.toNat_twoPow, Nat.mod_eq_of_lt (Nat.pow_lt_pow_succ Nat.one_lt_two)]
  rw [detect_eq_valid_iff, ← hpow, ← BitVec.toNat_eq, BitVec.eq_of_getLsbD_eq_iff]
  simp only [getLsbD_field, BitVec.getLsbD_twoPow, Nat.zero_add]
  constructor
  · rintro ⟨hm, hlow⟩ k hk
    rcases Nat.lt_succ_iff_lt_or_eq.mp hk with h | rfl
    · simp [hlow k h, h.ne']
    · simp [hm]
  · intro h
    refine ⟨by simpa using h m.val (by omega), fun k hk => ?_⟩
    have hmk : ¬ m.val = k := by omega
    simpa [hmk, Nat.lt_succ_of_lt hk] using h k (by omega)

/-- A Reserved block has byte 0 = 0 (R102). -/
theorem detect_eq_reserved_iff_field (blk : Block) : detect blk = .reserved ↔ (field blk 0 8).toNat = 0 := by
  have hzero : (field blk 0 8).toNat = 0 ↔ field blk 0 8 = 0#8 := (BitVec.toNat_eq (y := 0#8)).symm
  rw [detect_eq_reserved_iff, hzero, BitVec.eq_of_getLsbD_eq_iff]
  refine forall₂_congr fun k hk => ?_
  rw [getLsbD_field, decide_eq_true hk, Nat.zero_add, Bool.true_and, BitVec.getLsbD_zero]

theorem mode_decodeBlock (blk : Block) : (decodeBlock blk).mode = detect blk := by
  unfold decodeBlock
  split <;> simp [Instr.mode, *]

/-! ## A run of fields in a block (R103, R105 to R108) -/

/-- The fields listed stand in the block end to end from `pos`. -/
def Carries (blk : Block) : Nat → List (Nat × Nat) → Prop
  | _, [] => True
  | pos, (w, v) :: segs => (field blk pos w).toNat = v % 2 ^ w ∧ Carries blk (pos + w) segs

/-- Carrying fields is having their packing as the bits from `pos`. -/
theorem carries_iff_pack (blk : Block) (pos : Nat) (segs : List (Nat × Nat)) :
    Carries blk pos segs ↔ blk.toNat / 2 ^ pos % 2 ^ widthsSum segs = pack segs := by
  induction segs generalizing pos with
  | nil => simp [Carries, pack, widthsSum, Nat.mod_one]
  | cons seg segs ih =>
    obtain ⟨w, v⟩ := seg
    have hw := Nat.two_pow_pos w
    have hsplit : blk.toNat / 2 ^ pos % 2 ^ widthsSum ((w, v) :: segs) = (field blk pos w).toNat +
        2 ^ w * (blk.toNat / 2 ^ (pos + w) % 2 ^ widthsSum segs) := by
      rw [toNat_field, Nat.pow_add, ← Nat.div_div_eq_div_mul, ← Nat.mod_mul, ← Nat.pow_add]
      rfl
    rw [Carries, ih, hsplit, pack]
    constructor
    · rintro ⟨hv, hrest⟩
      rw [hv, hrest]
    · intro h
      have hlt := (field blk pos w).isLt
      have hlt' := Nat.mod_lt v hw
      have hmod := congrArg (· % 2 ^ w) h
      have hdiv := congrArg (· / 2 ^ w) h
      simp only [Nat.add_mul_mod_self_left, Nat.mod_eq_of_lt hlt, Nat.mod_mod] at hmod
      simp only [Nat.add_mul_div_left _ _ hw, Nat.div_eq_of_lt hlt, Nat.div_eq_of_lt hlt', Nat.zero_add] at hdiv
      exact ⟨hmod, hdiv⟩

/-- The bit budget of every instruction (R104). -/
theorem widthsSum_segments : ∀ i : Instr, widthsSum i.segments = 128
  | .mode0 .. => Laws.BitBudget.mode0 ..
  | .mode1 .. => Laws.BitBudget.mode1 ..
  | .mode2 .. => Laws.BitBudget.mode2 ..
  | .mode3 .. => Laws.BitBudget.mode3 ..
  | .mode4 .. => Laws.BitBudget.mode4 ..
  | .mode5 .. => Laws.BitBudget.mode5 ..
  | .mode6 .. => Laws.BitBudget.mode6 ..
  | .mode7 .. => Laws.BitBudget.mode7 ..
  | .reserved u => Laws.BitBudget.reserved u

/-- The fields of an instruction fill its block (R104). -/
theorem carries_segments_iff (blk : Block) (i : Instr) : Carries blk 0 i.segments ↔ encodeBlock i = blk := by
  have hlt : pack i.segments < 2 ^ 128 := widthsSum_segments i ▸ pack_lt i.segments
  rw [carries_iff_pack, widthsSum_segments, encodeBlock, BitVec.toNat_eq, BitVec.toNat_ofNat, Nat.mod_eq_of_lt hlt,
    pow_zero, Nat.div_one, Nat.mod_eq_of_lt blk.isLt, eq_comm]

theorem carries_append (blk : Block) (pos : Nat) (a b : List (Nat × Nat)) :
    Carries blk pos (a ++ b) ↔ Carries blk pos a ∧ Carries blk (pos + widthsSum a) b := by
  induction a generalizing pos with
  | nil => simp [Carries, widthsSum]
  | cons seg a ih => simp [Carries, ih, widthsSum, Nat.add_assoc, and_assoc]

/-- A run of k fields, the e-th at position `p e`. -/
theorem carries_map_finRange (blk : Block) {k : Nat} (g : Fin k → Nat × Nat) (p : Nat → Nat)
    (hp : ∀ e : Fin k, p (e + 1) = p e + (g e).1) :
    Carries blk (p 0) ((List.finRange k).map g) ↔
      ∀ e : Fin k, (field blk (p e) (g e).1).toNat = (g e).2 % 2 ^ (g e).1 := by
  induction k generalizing p with
  | zero => simp [Carries]
  | succ k ih =>
    have hnext : p 0 + (g 0).1 = p (0 + 1) := (hp 0).symm
    have ih := ih (g ∘ Fin.succ) (fun e => p (e + 1)) fun e => hp e.succ
    rw [List.finRange_succ, List.map_cons, List.map_map, Carries, hnext, ih, Fin.forall_fin_succ]
    rfl

/-! ## The operands as runs of fields -/

theorem carries_prefixSeg (blk : Block) (m : Fin 8) : Carries blk 0 (prefixSeg m) ↔ detect blk = .valid m := by
  rw [detect_eq_valid_iff_field, prefixSeg, Carries, Carries, and_true,
    Nat.mod_eq_of_lt (Nat.pow_lt_pow_succ Nat.one_lt_two)]

theorem carries_fieldSeg (blk : Block) (pos : Nat) {w : Nat} (v : BitVec w) :
    Carries blk pos (fieldSeg v) ↔ field blk pos w = v := by
  rw [fieldSeg, Carries, Carries, and_true, Nat.mod_eq_of_lt v.isLt, BitVec.toNat_eq]

/-- Fields of one width, one an entry. -/
theorem carries_entries (blk : Block) (pos w : Nat) {k : Nat} (f : Fin k → BitVec w) :
    Carries blk pos ((List.finRange k).map fun e => (w, (f e).toNat)) ↔
      ∀ e : Fin k, field blk (pos + e * w) w = f e := by
  have h := carries_map_finRange blk (fun e => (w, (f e).toNat)) (fun e => pos + e * w) fun e => by ring
  rw [Nat.zero_mul, Nat.add_zero] at h
  simp only [h, Nat.mod_eq_of_lt (f _).isLt, BitVec.toNat_eq]

theorem carries_vectorSegs (blk : Block) (pos : Nat) {w k : Nat} (vs : Vector (BitVec w) k) :
    Carries blk pos (vectorSegs vs) ↔ (Vector.ofFn fun e : Fin k => field blk (pos + e * w) w) = vs := by
  rw [vectorSegs, carries_entries]
  simp [Vector.ext_iff, Fin.forall_iff]

theorem widthsSum_entries (w : Nat) {k : Nat} (f : Fin k → Nat) :
    widthsSum ((List.finRange k).map fun e => (w, f e)) = k * w := by
  simp only [widthsSum, List.map_map]
  exact (sum_replicate_map _ w).trans (by rw [List.length_finRange])

theorem Colour.eq_iff {w : Nat} (c d : Colour w) : c = d ↔ c.r = d.r ∧ c.g = d.g ∧ c.b = d.b := by
  cases c; cases d; simp

/-- The colour region: R of every endpoint, then G, then B (R103 item 4, R105). -/
theorem carries_colourSegs (blk : Block) (pos : Nat) {w k : Nat} (cs : Vector (Colour w) k) :
    Carries blk pos (colourSegs cs) ↔ (Vector.ofFn fun e : Fin k => (⟨field blk (pos + (0 * k + e) * w) w,
      field blk (pos + (1 * k + e) * w) w, field blk (pos + (2 * k + e) * w) w⟩ : Colour w)) = cs := by
  have hpos : ∀ c e : Nat, pos + (c * k + e) * w = pos + c * (k * w) + e * w := fun c e => by ring
  simp only [colourSegs, carries_append, carries_entries, widthsSum_append, widthsSum_entries, hpos, Vector.ext_iff,
    Vector.getElem_ofFn, Colour.eq_iff, Fin.forall_iff, forall_and, and_assoc, Fin.getElem_fin]
  simp [two_mul, Nat.add_assoc]

/-! ## An index set (R107, R108, R201) -/

theorem idxWidth_le (anchor : Fin 16 → Bool) (w : Nat) (j : Fin 16) : idxWidth anchor w j ≤ w := by
  unfold idxWidth; split <;> omega

theorem idxOffset_succ (anchor : Fin 16 → Bool) (w : Nat) (i : Fin 16) :
    idxOffset anchor w (i + 1) = idxOffset anchor w i + idxWidth anchor w i := by
  rw [idxOffset, Fin.ofNat_val_eq_self]

theorem anchorsLow_iff {w : Nat} (anchor : Fin 16 → Bool) (ix : Vector (BitVec w) 16) :
    anchorsLow anchor ix = true ↔ ∀ i : Fin 16, (ix[i]).toNat < 2 ^ idxWidth anchor w i := by
  simp only [anchorsLow, List.all_eq_true, List.mem_finRange, true_implies]
  refine forall_congr' fun i => ?_
  cases h : anchor i with
  | false => simpa [idxWidth, h] using (ix[i]).isLt
  | true => simp [idxWidth, h]

/-- Zero-extending n bits gives the numbers below 2^n. -/
theorem setWidth_eq_iff {n w : Nat} (hn : n ≤ w) (x : BitVec n) (v : BitVec w) :
    x.setWidth w = v ↔ v.toNat < 2 ^ n ∧ x.toNat = v.toNat % 2 ^ n := by
  have hx : (x.setWidth w).toNat = x.toNat := BitVec.toNat_setWidth_of_le hn
  rw [← BitVec.toNat_inj, hx]
  constructor
  · intro h
    rw [← h]
    exact ⟨x.isLt, (Nat.mod_eq_of_lt x.isLt).symm⟩
  · rintro ⟨hv, h⟩
    rwa [Nat.mod_eq_of_lt hv] at h

theorem idxFields_eq_iff (blk : Block) (pos : Nat) {w : Nat} (anchor : Fin 16 → Bool) (ix : Vector (BitVec w) 16) :
    idxFields pos w anchor blk = ix ↔ Carries blk pos (idxSegs anchor ix) ∧ anchorsLow anchor ix = true := by
  have hc := carries_map_finRange blk (fun i => (idxWidth anchor w i, (ix[i]).toNat)) (pos + idxOffset anchor w ·)
    fun i => by rw [idxOffset_succ, Nat.add_assoc]
  have hv : idxFields pos w anchor blk = ix ↔ ∀ i : Fin 16,
      (field blk (pos + idxOffset anchor w i) (idxWidth anchor w i)).setWidth w = ix[i] := by
    simp [idxFields, Vector.ext_iff, Fin.forall_iff]
  rw [hv, anchorsLow_iff, idxSegs]
  simp only [setWidth_eq_iff (idxWidth_le anchor w _), forall_and]
  rw [← hc, and_comm]
  rfl

/-! ## The whole block -/

/-- Only blocks of its mode decode to an instruction. -/
theorem decodeBlock_eq_iff_detect (blk : Block) (i : Instr) :
    decodeBlock blk = i ↔ detect blk = i.mode ∧ decodeBlock blk = i :=
  ⟨fun h => ⟨h ▸ (mode_decodeBlock blk).symm, h⟩, And.right⟩

/-- Decoding by positions is carrying the fields in order, for each layout (R110 to R117): both sides make the same
claims field by field, an index set's anchors apart, which only well-formedness speaks of. -/
theorem decodeBlock_eq_iff (blk : Block) (i : Instr) :
    decodeBlock blk = i ↔ Carries blk 0 i.segments ∧ i.wellFormed = true := by
  rw [decodeBlock_eq_iff_detect]
  cases i
  case reserved u =>
    have hcarries : Carries blk 0 (Instr.reserved u).segments ↔ detect blk = .reserved ∧ field blk 8 120 = u := by
      rw [detect_eq_reserved_iff_field, ← carries_fieldSeg]
      exact Iff.rfl
    rw [hcarries, and_assoc]
    refine and_congr_right fun (hd : detect blk = .reserved) => ?_
    simp [decodeBlock, hd, Instr.wellFormed]
  all_goals
    simp only [Instr.mode, Instr.segments, Instr.wellFormed, carries_append, carries_prefixSeg, carries_fieldSeg,
      carries_colourSegs, carries_vectorSegs, widthsSum_append, widthsSum_prefixSeg, widthsSum_fieldSeg,
      widthsSum_colourSegs, widthsSum_vectorSegs, widthsSum_idxSegs, Rom.idxWidth_sum_isAnchor, Nat.reduceLeDiff,
      and_assoc, Bool.and_eq_true]
    refine and_congr_right fun hd => ?_
    simp only [decodeBlock, hd, Instr.mode0.injEq, Instr.mode1.injEq, Instr.mode2.injEq, Instr.mode3.injEq,
      Instr.mode4.injEq, Instr.mode5.injEq, Instr.mode6.injEq, Instr.mode7.injEq, idxFields_eq_iff]
  case mode6 => exact Iff.rfl
  -- two index sets, each with its anchors
  case mode4 | mode5 =>
    rw [and_and_and_comm, and_assoc]
    exact Iff.rfl
  -- the anchors depend on the partition field
  case mode0 | mode1 | mode2 | mode3 | mode7 =>
    refine and_congr_right fun hp => ?_
    rw [hp]
    exact Iff.rfl

/-- The one equivalence of the decoder and the encoder (R104, R265). -/
theorem decodeBlock_eq_iff_encodeBlock (blk : Block) (i : Instr) :
    decodeBlock blk = i ↔ encodeBlock i = blk ∧ i.wellFormed = true := by
  rw [decodeBlock_eq_iff, carries_segments_iff]

/-! ## The statements -/

/-- Settles O1: the block of an instruction carries its fields. -/
theorem decodeUndoesEncode : Obligations.DecodeUndoesEncode :=
  fun i hi => (decodeBlock_eq_iff_encodeBlock _ i).mpr ⟨rfl, hi⟩

/-- Settles O2: the same equivalence, at the instruction a block decodes to. -/
theorem encodeUndoesDecode : Obligations.EncodeUndoesDecode :=
  fun blk => ((decodeBlock_eq_iff_encodeBlock blk _).mp rfl).symm

/-- Settles O3: the 16 bytes of the instruction's block are the bytes decoded. -/
theorem decodeTakesSixteenBytes : Obligations.DecodeTakesSixteenBytes := by
  refine ⟨fun i rest hi => ?_, fun bytes => ?_⟩
  · have hlen : (encode i).length = Config.blockBytes := length_bytesOfBlock _
    have hblk : blockOfBytes (encode i) = encodeBlock i := blockOfBytes_bytesOfBlock _
    rw [decode, if_neg (by simp [hlen]), List.take_left' hlen, List.drop_left' hlen, hblk, decodeUndoesEncode i hi]
  · unfold decode
    split
    · exact iff_of_true ‹_› rfl
    · exact iff_of_false ‹_› (by simp)

/-- Settles O4: the first set bit makes the mode field 2^m, and `DetectMode` steps over it. -/
theorem modeIsFirstSetBit : Obligations.ModeIsFirstSetBit := by
  refine fun blk m => ⟨detect_eq_valid_iff blk m, (detect_eq_valid_iff_field blk m).mp, ?_⟩
  rintro s t hseq rfl hm ht
  rw [State.tick_of_detectMode hseq ht, State.detectState_valid hm]
  rfl

/-- Settles O6: byte 0 holds the mode field of every mode, and masking it is reading that field. -/
theorem opcodeMapDecidesTheMode : Obligations.OpcodeMapDecidesTheMode := by
  refine ⟨fun blk m => ?_, fun blk => ?_, mode_decodeBlock⟩
  · have hmask : 2 ^ (m.val + 1) ∣ 256 := Nat.pow_dvd_pow 2 (by omega : m.val + 1 ≤ 8)
    rw [detect_eq_valid_iff_field, toNat_field, pow_zero, Nat.div_one, Nat.mod_mod_of_dvd _ hmask]
  · rw [detect_eq_reserved_iff_field, toNat_field, pow_zero, Nat.div_one]
    rfl

theorem encodeBlock_reserved (u : BitVec 120) : encodeBlock (.reserved u) = u ++ 0#8 := by
  have hu : (u ++ 0#8).toNat = 2 ^ 8 * u.toNat := by
    rw [BitVec.toNat_append]
    simp [Nat.shiftLeft_eq, Nat.mul_comm]
  have hpack : pack (Instr.reserved u).segments = 2 ^ 8 * u.toNat := by
    simp [Instr.segments, pack, Nat.mod_eq_of_lt u.isLt]
  rw [encodeBlock, hpack, ← hu, BitVec.ofNat_toNat, BitVec.setWidth_eq]

/-- Settles O9: the four examples are run, and a Reserved block is that of its upper bits. -/
theorem writtenOutBlocksDecode : Obligations.WrittenOutBlocksDecode :=
  ⟨by decide, by decide, by decide, by decide,
    fun u => (decodeBlock_eq_iff_encodeBlock _ _).mpr ⟨encodeBlock_reserved u, rfl⟩⟩

end Sys2Proof
end

section
/-! PROOFS. The states of the sequencer that find out what a block is: `DetectMode` (R142, R143) and the header's three
reads (R144). And what the header's rotation is for: the swap of R146, in the modes that have one. -/

namespace Sys2Proof

/-! ## Values read (R140, R141) -/

/-- A run of takes reads its first field at the cursor and goes on after it. -/
theorem takes_cons_eq_some {blk : Block} {pos n last : Nat} {ns vs : List Nat} :
    takes blk pos (n :: ns) = some (vs, last) ↔
      ∃ v rest, readBits blk pos n = some v ∧ takes blk (pos + n) ns = some (rest, last) ∧ vs = v :: rest := by
  rw [takes]
  cases readBits blk pos n with
  | none => simp
  | some v =>
    cases takes blk (pos + n) ns with
    | none => simp
    | some p => simp [Prod.ext_iff, and_comm, eq_comm]

theorem lt_of_readBits {blk : Block} {pos n v : Nat} (h : readBits blk pos n = some v) : v < 2 ^ n := by
  unfold readBits at h
  split at h
  · cases h; exact (field blk pos n).isLt
  · cases h

/-- A field of width 0 reads 0 (R140). -/
theorem eq_zero_of_readBits {blk : Block} {pos n v : Nat} (h : readBits blk pos n = some v) (hn : n = 0) : v = 0 := by
  have hlt := lt_of_readBits h
  rw [hn] at hlt
  omega

end Sys2Proof

namespace Sys2Proof.Machine

/-! ## DetectMode (R142, R143) -/

/-- A block whose byte 0 is not 0 is of a valid mode (R101, R102). -/
theorem exists_detect_eq_valid {blk : Block} (h : (field blk 0 8).toNat ≠ 0) : ∃ m, detect blk = .valid m := by
  cases hm : detect blk with
  | reserved => exact absurd ((detect_eq_reserved_iff_field blk).mp hm) h
  | valid m => exact ⟨m, rfl⟩

/-- What `DetectMode` leaves alone in both outcomes: the header, endpoint, p-bit, index, subset and anchor registers. -/
theorem State.detectState_frame (s : State) :
    s.detectState.partition = s.partition ∧ s.detectState.rotation = s.rotation ∧ s.detectState.idxSel = s.idxSel ∧
    s.detectState.epRaw = s.epRaw ∧ s.detectState.pbit = s.pbit ∧ s.detectState.sp = s.sp ∧ s.detectState.ep = s.ep ∧
    s.detectState.idx1 = s.idx1 ∧ s.detectState.idx2 = s.idx2 ∧ s.detectState.subsetOf = s.subsetOf ∧
    s.detectState.anchor = s.anchor := by
  cases hm : detect s.blk with
  | reserved => simp [State.detectState_reserved hm]
  | valid m => simp [State.detectState_valid hm]

/-- After `DetectMode` no state of a decode writes the descriptor (R143). -/
theorem State.tick_desc {s t : State} (hi : s.seq ≠ .idle) (hd : s.seq ≠ .detectMode) (h : s.tick = .next t) :
    t.desc = s.desc := by
  by_cases hw : s.seq = .writeOutput
  · rw [(State.tick_of_writeOutput hw h).2, s.written_desc]
  · exact (State.tick_advances hi hd hw h).desc

/-- Settles O5: `DetectMode` by the two outcomes of `detect`, and the descriptor's constancy by `State.tick_desc`. -/
theorem detectModeWritesModeAndDescriptor : Obligations.DetectModeWritesModeAndDescriptor := by
  refine ⟨fun s hq => ⟨s.detectState, by simp [State.tick, hq]⟩, fun s t h => ⟨fun hq h0 => ?_, fun hq h0 => ?_,
    fun hq => ?_, fun hq h0 => ?_, fun hi hd => State.tick_desc hi hd h⟩⟩
  · rw [State.tick_of_detectMode hq h, State.detectState_reserved ((detect_eq_reserved_iff_field _).mpr h0)]
    exact ⟨rfl, rfl⟩
  · obtain ⟨m, hm⟩ := exists_detect_eq_valid h0
    rw [State.tick_of_detectMode hq h, State.detectState_valid hm]
    exact ⟨m, (detect_eq_valid_iff _ m).mp hm, rfl, rfl, rfl⟩
  · rw [State.tick_of_detectMode hq h, s.detectState_dest]
    simpa [and_assoc] using s.detectState_frame
  · obtain ⟨m, hm⟩ := exists_detect_eq_valid h0
    rw [State.tick_of_detectMode hq h, State.detectState_valid hm]
    rfl

/-! ## The header (R144) -/

theorem State.tick_of_header {s : State} (hq : s.seq = .readPartitionRotationSelector) : s.tick = s.headerState := by
  simp only [State.tick, hq]

/-- `ReadPartitionRotationSelector` takes three values one after the other and puts them into the header (R144). -/
theorem State.headerState_next {s t : State} (h : s.headerState = .next t) :
    ∃ p r x, readBits s.blk s.bitPos s.desc.pb = some p ∧ readBits s.blk (s.bitPos + s.desc.pb) s.desc.rb = some r ∧
      readBits s.blk (s.bitPos + s.desc.pb + s.desc.rb) s.desc.isb = some x ∧
      t = { (s.putCursor (s.bitPos + s.desc.pb + s.desc.rb + s.desc.isb)).putHeader (BitVec.ofNat 6 p)
              (BitVec.ofNat 2 r) (BitVec.ofNat 1 x) with seq := .readEndpointChannels } := by
  obtain ⟨vs, hvs, -, rfl⟩ := State.takeThen_next h
  obtain ⟨p, _, hp, hrest, rfl⟩ := takes_cons_eq_some.mp hvs
  obtain ⟨r, _, hr, hlast, rfl⟩ := takes_cons_eq_some.mp hrest
  obtain ⟨x, _, hx, -, rfl⟩ := takes_cons_eq_some.mp hlast
  exact ⟨p, r, x, hp, hr, hx, by simp [Nat.add_assoc]⟩

/-- The header of every mode lies inside the block, and no field of it is over 32 bits wide (R103, R140). -/
theorem headerWidths_fit (m : Fin 8) :
    (∀ n ∈ [(Rom.mode m).pb, (Rom.mode m).rb, (Rom.mode m).isb], n ≤ 32) ∧
      m.val + 1 + [(Rom.mode m).pb, (Rom.mode m).rb, (Rom.mode m).isb].sum ≤ 128 := by
  decide +revert

/-- In a decode of mode m the header's reads do not fault (R140). -/
theorem State.Decoding.headerState_completes {m : Fin 8} {s : State} (d : s.Decoding m)
    (hq : s.seq = .readPartitionRotationSelector) : s.bitPos = m.val + 1 ∧ ∃ t, s.headerState = .next t := by
  have hpos : s.bitPos = m.val + 1 := by rw [d.bitPos, hq]; rfl
  obtain ⟨hwidth, hend⟩ := headerWidths_fit m
  rw [← d.desc] at hwidth hend
  obtain ⟨_, -, ht⟩ := State.takeThen_eq_next _ hwidth (hpos ▸ hend)
  exact ⟨hpos, _, ht⟩

/-- Settles O14: the three values of `State.headerState_next`, and the invariant for the cursor they are read at. -/
theorem headerFieldsAreTakenInOrder : Obligations.HeaderFieldsAreTakenInOrder := by
  refine ⟨fun s t hq h => ?_, by decide, fun s hs hq => ?_⟩
  · rw [State.tick_of_header hq] at h
    obtain ⟨p, r, x, hp, hr, hx, rfl⟩ := State.headerState_next h
    refine ⟨⟨p, r, x, hp, hr, hx, rfl, rfl, rfl, fun h0 => ?_, fun h0 => ?_, fun h0 => ?_⟩, by simp⟩
    · simp [eq_zero_of_readBits hp h0]
    · simp [eq_zero_of_readBits hr h0]
    · simp [eq_zero_of_readBits hx h0]
  · obtain ⟨m, d⟩ := State.decoding_of_inv hs (by simp [hq]) (by simp [hq]) (by simp [hq])
    obtain ⟨hpos, t, ht⟩ := d.headerState_completes hq
    exact ⟨m, t, d.mode, d.desc, hpos, (State.tick_of_header hq).trans ht⟩

/-! ## The rotation (R146) -/

/-- Rotation 0 swaps nothing; 1, 2 and 3 swap alpha with red, green and blue (R146, R227). -/
theorem rotate_eq (r g b a : Byte) :
    rotate 0 ⟨r, g, b, a⟩ = ⟨r, g, b, a⟩ ∧ rotate 1 ⟨r, g, b, a⟩ = ⟨a, g, b, r⟩ ∧
    rotate 2 ⟨r, g, b, a⟩ = ⟨r, a, b, g⟩ ∧ rotate 3 ⟨r, g, b, a⟩ = ⟨r, g, a, b⟩ :=
  ⟨rfl, rfl, rfl, rfl⟩

/-- A mode with no rotation has one index set (R51). -/
theorem ib2_of_no_rotation : ∀ m : Fin 8, (Rom.mode m).rb = 0 → (Rom.mode m).ib2 = none := by decide

theorem nth_of_lt {α : Type} [Inhabited α] {k : Nat} (v : Vector α k) {e : Nat} (h : e < k) : nth v e = v[e] :=
  dif_pos h

/-- With one index set colour and alpha are blended by one weight (R223, R226). -/
theorem State.blendedPixel_of_one_set {s : State} (h : s.desc.ib2 = none) (i : Fin 16) :
    s.blendedPixel i = pixelOf (nth s.ep) s.subsetOf[i] (Rom.weight s.desc.ib (s.idx1[i]).toNat) := by
  have hlo : nth s.ep (2 * (s.subsetOf[i]).val) = s.loEndpoint i := nth_of_lt _ (by omega)
  have hhi : nth s.ep (2 * (s.subsetOf[i]).val + 1) = s.hiEndpoint i := nth_of_lt _ (by omega)
  simp only [State.blendedPixel, pixelOf, hlo, hhi, weightsOf, h, blend]

/-- Every instruction of a valid mode puts its descriptor in place, and rotation 0 where it has none, before the common
end of the decode (R252). -/
theorem exec_eq_finishDecode {i : Instr} {m : Fin 8} (hm : i.mode = .valid m) (s : State) :
    ∃ u : State, exec i s = u.finishDecode ∧ u.desc = Rom.mode m ∧ ((Rom.mode m).rb = 0 → u.rotation = 0) := by
  cases i <;> cases hm
  case mode4 | mode5 => exact ⟨_, rfl, by simp, nofun⟩
  all_goals exact ⟨_, rfl, by simp, fun _ => by simp⟩

/-- The end of a decode with rotation 0 and one index set: the rotation swaps nothing (R146). -/
theorem State.decoded_px_of_no_rotation {s : State} (hr : s.rotation = 0) (h : s.desc.ib2 = none) (k : Fin 16) :
    s.decoded.px[k] = pixelOf (nth s.ep) s.subsetOf[k] (Rom.weight s.desc.ib (s.idx1[k]).toNat) := by
  rw [State.decoded_px, hr, ← State.blendedPixel_of_one_set h]
  rfl

theorem State.tick_of_applyRotation {s : State} (hq : s.seq = .applyRotation) :
    s.tick = .next { s.applyRotation with seq := .writeOutput } := by
  simp only [State.tick, hq]

/-- A block that starts with the mode bits of m and then a rotation is of mode m with that rotation (R101, R103). -/
theorem detect_and_rotation_of_carries {blk : Block} {m : Fin 8} {rot : BitVec 2} {segs : List (Nat × Nat)}
    (h : Carries blk 0 (prefixSeg m ++ (fieldSeg rot ++ segs))) :
    detect blk = .valid m ∧ field blk (m.val + 1) 2 = rot := by
  rw [carries_append, carries_append, carries_prefixSeg, carries_fieldSeg, widthsSum_prefixSeg, Nat.zero_add] at h
  obtain ⟨hm, hr, -⟩ := h
  exact ⟨hm, hr⟩

/-- Settles O26: the common end of a decode for the modes with no rotation, and the encoder for a block of each value. -/
theorem rotationSelectsTheSwap : Obligations.RotationSelectsTheSwap := by
  refine ⟨rotate_eq, fun i m s t hm hrb h => ?_, fun s hq => ?_, fun rot => ⟨?_, ?_⟩⟩
  · obtain ⟨u, hu, hdesc, hrot⟩ := exec_eq_finishDecode hm s
    obtain ⟨-, rfl⟩ := State.finishDecode_next (hu ▸ h)
    refine ⟨hrot hrb, fun k => ?_⟩
    rw [← hdesc]
    exact State.decoded_px_of_no_rotation (hrot hrb) (hdesc ▸ ib2_of_no_rotation m hrb) k
  · exact ⟨_, State.tick_of_applyRotation hq, by simp⟩
  · obtain ⟨hm, hr⟩ := detect_and_rotation_of_carries (m := 4)
      ((carries_segments_iff _ (.mode4 rot 0 default default default default)).mpr rfl)
    exact ⟨_, hm, hr, (encodeUndoesDecode _).1⟩
  · obtain ⟨hm, hr⟩ := detect_and_rotation_of_carries (m := 5)
      ((carries_segments_iff _ (.mode5 rot default default default default)).mpr rfl)
    exact ⟨_, hm, hr, (encodeUndoesDecode _).1⟩

end Sys2Proof.Machine
end

section
/-! PROOFS. The partition selector (R160 to R164): the header state marks every pixel by the tables' row of the partition
just read, and what the rows say of subsets and anchors. -/

namespace Sys2Proof.Rom

/-! ## Subset ids (R52, R54) -/

/-- A P2 bit is a subset id as it stands. -/
theorem p2_val (p : BitVec 6) (i : Fin 16) : (p2 p i).val = (p2Mask.getD p.toNat 0 >>> i.val) % 2 :=
  Nat.mod_eq_of_lt ((Nat.mod_lt _ Nat.two_pos).trans (Nat.lt_succ_self 2))

/-- No two bits of a packed P3 row are 3 (R54). -/
theorem p3Packed_digit_lt :
    ∀ (p : BitVec 6) (i : Fin 16), (p3Packed.getD p.toNat 0 >>> (2 * i.val)) % 4 < 3 :=
  bitVec6_forall (by decide +kernel)

/-- A P3 digit is a subset id as it stands. -/
theorem p3_val (p : BitVec 6) (i : Fin 16) : (p3 p i).val = (p3Packed.getD p.toNat 0 >>> (2 * i.val)) % 4 :=
  Nat.mod_eq_of_lt (p3Packed_digit_lt p i)

/-- Modes 0 and 2 have three subsets, modes 1, 3 and 7 two (R51). -/
theorem mode_ns_iff (m : Fin 8) :
    ((mode m).ns = .three ↔ m = 0 ∨ m = 2) ∧ ((mode m).ns = .two ↔ m = 1 ∨ m = 3 ∨ m = 7) := by
  decide +revert

/-! ## Anchors (R53, R55, R162) -/

theorem isAnchor_iff (ns : Subsets) (p : BitVec 6) (i : Fin 16) :
    isAnchor ns p i = true ↔ i = 0 ∨ (ns = .two ∧ i = anchor2 p) ∨ (ns = .three ∧ (i = anchor3A p ∨ i = anchor3B p)) := by
  cases ns <;> simp [isAnchor, anchorSet]

/-- Pixel 0 is in subset 0 of every partition (R164). -/
theorem subset_zero : ∀ p, p2 p 0 = 0 ∧ p3 p 0 = 0 := bitVec6_forall (by decide)

/-- `Anchor2` lies in subset 1 of its two (R164). -/
theorem p2_anchor2 : ∀ p, p2 p (anchor2 p) = 1 := bitVec6_forall (by decide)

/-- `Anchor3A` lies in subset 1 and `Anchor3B` in subset 2 of their three (R164). -/
theorem p3_anchor3 : ∀ p, p3 p (anchor3A p) = 1 ∧ p3 p (anchor3B p) = 2 := bitVec6_forall (by decide)

end Sys2Proof.Rom

namespace Sys2Proof.Machine

/-- The header state leaves every pixel marked by the row of the partition it has read (R160, R163). -/
theorem State.tick_of_header_marks {s t : State} (hq : s.seq = .readPartitionRotationSelector) (h : s.tick = .next t) :
    (∀ i : Fin 16, t.subsetOf[i] = Rom.subsetAt s.desc.ns t.partition i) ∧
      ∀ i : Fin 16, t.anchor[i] = Rom.isAnchor s.desc.ns t.partition i := by
  have a := State.headerState_advances hq (State.tick_of_header hq ▸ h)
  obtain ⟨-, -, -, hsubset, hanchor⟩ := t.headerSound_iff.mp (a.header (.inl hq))
  rw [a.desc] at hsubset hanchor
  exact ⟨hsubset, hanchor⟩

/-- Settles O15: the marks of the header state, read from the row that ns chooses. -/
theorem subsetsComeFromTheRowOfNs : Obligations.SubsetsComeFromTheRowOfNs := by
  refine ⟨fun s t hq h i => ?_, Rom.mode_ns_iff⟩
  obtain ⟨hsubset, -⟩ := State.tick_of_header_marks hq h
  rw [hsubset i]
  refine ⟨fun hns => ?_, fun hns => ?_, fun hns => ?_⟩ <;> rw [hns]
  · rfl
  · exact Rom.p2_val _ i
  · exact Rom.p3_val _ i

/-- Settles O16: the marks of the header state are the anchor set, whose members are counted and found in their subsets
over the 64 rows. -/
theorem anchorsAreMarkedFromTheTables : Obligations.AnchorsAreMarkedFromTheTables := by
  refine ⟨fun s t hq h => ?_, fun p => ?_⟩
  · obtain ⟨-, hanchor⟩ := State.tick_of_header_marks hq h
    simp only [hanchor]
    exact ⟨Rom.isAnchor_iff _ _, by rw [← List.countP_eq_length_filter]; exact Rom.countP_isAnchor _ _⟩
  · obtain ⟨h2, h3⟩ := Rom.subset_zero p
    obtain ⟨hA, hB⟩ := Rom.p3_anchor3 p
    exact ⟨h2, h3, Rom.p2_anchor2 p, hA, hB⟩

end Sys2Proof.Machine
end

section
/-! PROOFS. The dequantizer (R182 to R186): bit replication as arithmetic, its bounds and order, the p-bit below the raw
value, and the alpha 255 of the modes with no alpha field (92 D6), which the blend keeps in every pixel (R226). -/

namespace Sys2Proof.Machine

/-! ## Bit replication (R182) -/

/-- The value has the top n bits and its own high bits the rest; from width 4 on one copy is enough (R186). -/
theorem toNat_dq {v n : Nat} (h4 : 4 ≤ n) (h8 : n ≤ 8) (hv : v < 2 ^ n) :
    (dq v n).toNat = v * 2 ^ (8 - n) + v / 2 ^ (2 * n - 8) := by
  have hfull : 2 ^ n * 2 ^ (8 - n) = 256 := by rw [← Nat.pow_add, Nat.add_sub_cancel' h8]
  have hcopy : v <<< (8 - n) >>> n = v / 2 ^ (2 * n - 8) := by
    have hexp : 2 ^ n = 2 ^ (2 * n - 8) * 2 ^ (8 - n) := by rw [← Nat.pow_add]; congr 1; omega
    rw [Nat.shiftLeft_eq, Nat.shiftRight_eq_div_pow, hexp, Nat.mul_div_mul_right _ _ (Nat.two_pow_pos _)]
  have hlow : v / 2 ^ (2 * n - 8) < 2 ^ (8 - n) := by
    rw [Nat.div_lt_iff_lt_mul (Nat.two_pow_pos _), ← Nat.pow_add]
    exact hv.trans_eq (by congr 1; omega)
  have hbyte : v * 2 ^ (8 - n) + v / 2 ^ (2 * n - 8) < 256 := by
    calc v * 2 ^ (8 - n) + v / 2 ^ (2 * n - 8) < (v + 1) * 2 ^ (8 - n) := by rw [Nat.succ_mul v]; omega
      _ ≤ 2 ^ n * 2 ^ (8 - n) := Nat.mul_le_mul_right _ hv
      _ = 256 := hfull
  rw [dq, hcopy, ← Nat.shiftLeft_add_eq_or_of_lt hlow, Nat.shiftLeft_eq, BitVec.toNat_ofNat,
    Nat.and_two_pow_sub_one_eq_mod _ 8, Nat.mod_mod, Nat.mod_eq_of_lt hbyte]

/-- Settles O21: the two copies do not meet, so their union is their sum. -/
theorem dequantizerReplicatesHighBits : Obligations.DequantizerReplicatesHighBits :=
  fun _ n hn hv => toNat_dq (by omega) (by omega) hv

theorem dq_zero (n : Nat) : dq 0 n = 0 := by simp [dq]

/-- The copy in the low bits grows with the value, so the order is that of the top bits (R185). -/
theorem dq_lt_dq {v v' n : Nat} (h4 : 4 ≤ n) (h8 : n ≤ 8) (h : v < v') (hv' : v' < 2 ^ n) :
    (dq v n).toNat < (dq v' n).toNat := by
  rw [toNat_dq h4 h8 (h.trans hv'), toNat_dq h4 h8 hv']
  exact Nat.add_lt_add_of_lt_of_le (Nat.mul_lt_mul_of_pos_right h (Nat.two_pow_pos _)) (Nat.div_le_div_right h.le)

/-- Settles O22: full scale is one value a width. -/
theorem dequantizerBoundsAndOrder : Obligations.DequantizerBoundsAndOrder :=
  ⟨fun n => dq_zero n, by decide, fun _ _ _ hn h hv' => dq_lt_dq (by omega) (by omega) h hv'⟩

/-! ## The p-bit (R183) -/

/-- Settles O23: the p-bit fills the bit that the shift leaves free. -/
theorem pBitJoinsBelowTheRawValue : Obligations.PBitJoinsBelowTheRawValue := by
  refine ⟨fun raw bits p => ?_, fun _ _ => rfl⟩
  have hjoin : raw.toNat <<< 1 ||| p.toNat = 2 * raw.toNat + p.toNat := by
    rw [← Nat.shiftLeft_add_eq_or_of_lt p.isLt, Nat.shiftLeft_eq, Nat.pow_one, Nat.mul_comm]
  rw [dqChan, hjoin]

/-! ## Opaque pixels (R184, R226, 92 D6) -/

theorem getD_zero_le {l : List Nat} {c : Nat} (h : ∀ x ∈ l, x ≤ c) (k : Nat) : l.getD k 0 ≤ c := by
  by_cases hk : k < l.length
  · rw [List.getD_eq_getElem l 0 hk]
    exact h _ (List.getElem_mem hk)
  · rw [List.getD_eq_default l 0 (Nat.le_of_not_lt hk)]
    exact Nat.zero_le c

/-- No weight is over 64 (R56, R57). -/
theorem weight_le_64 (b : IndexWidth) (v : Nat) : Rom.weight b v ≤ 64 := by
  cases b with
  | two => exact getD_zero_le (l := Rom.w2) (by decide) _
  | three => exact getD_zero_le (l := Rom.w3) (by decide) _
  | four => exact getD_zero_le (l := Rom.w4) (by decide) _

/-- Between equal endpoints every weight gives the endpoint (R221). -/
theorem interp_self (a : Byte) {w : Nat} (hw : w ≤ 64) : interp a a w = a := by
  have hsum : a.toNat * (64 - w) + a.toNat * w = a.toNat * 64 := by rw [← Nat.mul_add, Nat.sub_add_cancel hw]
  have hround : (a.toNat * 64 + 32) / 2 ^ 6 = a.toNat := by omega
  rw [interp, hsum, Nat.shiftRight_eq_div_pow, hround, BitVec.ofNat_toNat, BitVec.setWidth_eq]

/-- A mode with no alpha field has no rotation (R51). -/
theorem rb_of_no_alpha : ∀ m : Fin 8, (Rom.mode m).ab = 0 → (Rom.mode m).rb = 0 := by decide

theorem dqEndpoint_a_of_no_alpha {d : ModeDesc} (h : d.ab = 0) (raw : Rgba) (p : Option (BitVec 1)) :
    (dqEndpoint d raw p).a = 255 := by
  simp [dqEndpoint, h]

/-- `Dequantize` makes each endpoint of the mode from its raw channels (R184). -/
theorem State.dequantize_ep_of_lt {s : State} {e : Fin 6} (he : e.val < s.desc.ne) :
    s.dequantize.ep[e] = dqEndpoint s.desc s.epRaw[e] (pOf s.desc s.pbit[e]) := by
  simp [he]

/-- A decode in a valid mode leaves every endpoint of the mode dequantized, and every pixel in a subset of the mode. -/
theorem exec_endpoints {i : Instr} {m : Fin 8} {s t : State} (hm : i.mode = .valid m) (h : exec i s = .next t) :
    (∀ e : Fin 6, e.val < (Rom.mode m).ne → ∃ raw p, t.ep[e] = dqEndpoint (Rom.mode m) raw p) ∧
      ∀ k : Fin 16, (t.subsetOf[k]).val < (Rom.mode m).ns.count := by
  cases i <;> cases hm
  all_goals
    obtain ⟨-, rfl⟩ := State.finishDecode_next h
    exact ⟨fun e he => ⟨_, _, State.dequantize_ep_of_lt he⟩, fun k => by simp [State.decoded, subsetAt_lt]⟩

/-- Settles O49: both ends of every blend have alpha 255, and no rotation moves it. -/
theorem modesWithoutAlphaAreOpaque : Obligations.ModesWithoutAlphaAreOpaque := by
  intro i m s t k hm hab h
  obtain ⟨-, hpixels, -⟩ := rotationSelectsTheSwap
  obtain ⟨-, hpx⟩ := hpixels i m s t hm (rb_of_no_alpha m hab) h
  obtain ⟨hep, hsub⟩ := exec_endpoints hm h
  have halpha : ∀ e, e < (Rom.mode m).ne → e < 6 → (nth t.ep e).a = 255 := by
    intro e he h6
    obtain ⟨raw, p, hraw⟩ := hep ⟨e, h6⟩ he
    rw [nth_of_lt t.ep h6]
    exact (congrArg Rgba.a hraw).trans (dqEndpoint_a_of_no_alpha hab raw p)
  have hhi : 2 * (t.subsetOf[k]).val + 1 < (Rom.mode m).ne := by
    have hk := hsub k
    rw [ModeDesc.ne]
    omega
  rw [hpx k, pixelOf, halpha _ (by omega) (by omega), halpha _ hhi (by omega)]
  exact interp_self 255 (weight_le_64 _ _)

end Sys2Proof.Machine
end

section
/-! PROOFS. The index decoder (R200 to R204): an index set as a run of fields among the takes of `ReadIndices`, and the
range of every index after a decode, which is what a well-formed instruction says of its index operands. -/

namespace Sys2Proof

/-! ## An index set among the fields taken (R107, R108) -/

/-- The widths of the first k pixels' fields add up to the offset of pixel k's. -/
theorem idxWidths_take_sum (anchor : Fin 16 → Bool) (w : Nat) {k : Nat} (hk : k ≤ 16) :
    (((List.finRange 16).map (idxWidth anchor w)).take k).sum = idxOffset anchor w k := by
  induction k with
  | zero => rfl
  | succ k ih =>
    rw [List.sum_take_succ _ _ (by simpa using hk), ih (by omega), idxOffset_succ anchor w ⟨k, hk⟩]
    simp

/-- In a run of takes with an index set after other fields, pixel i's value is its field, at the set's base plus its
offset. -/
theorem takes_idxWidths {blk : Block} {pos last w : Nat} {anchor : Fin 16 → Bool} {before after vs : List Nat}
    (h : takes blk pos (before ++ ((List.finRange 16).map (idxWidth anchor w) ++ after)) = some (vs, last))
    (i : Fin 16) : vs.getD (before.length + i) 0 =
      (field blk (pos + before.sum + idxOffset anchor w i) (idxWidth anchor w i)).toNat := by
  have hread : ((List.finRange 16).map (idxWidth anchor w) ++ after).getD i 0 = idxWidth anchor w i := by
    rw [List.getD_append _ _ _ _ (by simp), List.getD_eq_getElem _ _ (by simp)]
    simp
  have hbase : ((before ++ ((List.finRange 16).map (idxWidth anchor w) ++ after)).take (before.length + i)).sum =
      before.sum + idxOffset anchor w i := by
    rw [List.take_length_add_append, List.sum_append, List.take_append_of_le_length (by simp),
      idxWidths_take_sum anchor w i.isLt.le]
  rw [takes_getD h _ (by simp; omega), hbase, List.getD_append_right _ _ _ _ (Nat.le_add_right ..),
    Nat.add_sub_cancel_left, hread, toNat_field, Nat.add_assoc]

theorem idxWidth_decide (p : Fin 16 → Prop) [DecidablePred p] (w : Nat) (i : Fin 16) :
    idxWidth (fun j => decide (p j)) w i = if p i then w - 1 else w := by
  simp [idxWidth]

/-- A field no wider than a register reads back from it. -/
theorem toNat_ofNat_field (blk : Block) (pos : Nat) {n w : Nat} (h : n ≤ w) :
    (BitVec.ofNat w (field blk pos n).toNat).toNat = (field blk pos n).toNat := by
  rw [BitVec.toNat_ofNat, Nat.mod_eq_of_lt ((field blk pos n).isLt.trans_le (Nat.pow_le_pow_right Nat.two_pos h))]

end Sys2Proof

namespace Sys2Proof.Machine

theorem indexBits_le_four (b : IndexWidth) : b.bits ≤ 4 := by cases b <;> decide

theorem State.idx1Widths_eq (s : State) :
    s.idx1Widths = (List.finRange 16).map (idxWidth (fun j => s.anchor[j]) s.desc.ib.bits) := rfl

theorem idx2Widths_of_some {d : ModeDesc} {b : IndexWidth} (h : d.ib2 = some b) :
    idx2Widths d = (List.finRange 16).map (idxWidth (fun j => decide (j = 0)) b.bits) := by
  simp only [idx2Widths, h]
  exact List.map_congr_left fun i _ => (idxWidth_decide (· = 0) b.bits i).symm

/-! ## ReadIndices (R200, R202) -/

theorem State.tick_of_readIndices {s : State} (hq : s.seq = .readIndices) : s.tick = s.indexState := by
  simp only [State.tick, hq]

/-- What `ReadIndices` leaves alone: every working register but the indices and the cursor, and every byte. -/
theorem State.indexState_frame {s t : State} (h : s.indexState = .next t) :
    t.mode = s.mode ∧ t.desc = s.desc ∧ t.partition = s.partition ∧ t.rotation = s.rotation ∧ t.idxSel = s.idxSel ∧
    t.epRaw = s.epRaw ∧ t.pbit = s.pbit ∧ t.sp = s.sp ∧ t.ep = s.ep ∧ t.subsetOf = s.subsetOf ∧ t.anchor = s.anchor ∧
    t.px = s.px ∧ t.dest = s.dest := by
  obtain ⟨vs, -, -, rfl⟩ := State.takeThen_next h
  dsimp only
  split_ifs <;> simp

/-- `ReadIndices` puts the first 16 values it takes into the primary indices, and with a second set the next 16 into the
secondary ones. -/
theorem State.indexState_next {s t : State} (h : s.indexState = .next t) :
    ∃ vs last, takes s.blk s.bitPos (s.idx1Widths ++ idx2Widths s.desc) = some (vs, last) ∧
      (∀ i : Fin 16, t.idx1[i] = BitVec.ofNat 4 (vs.getD i 0)) ∧
      (∀ b, s.desc.ib2 = some b → ∀ i : Fin 16, t.idx2[i] = BitVec.ofNat 3 (vs.getD (16 + i) 0)) ∧
      (s.desc.ib2 = none → t.idx2 = s.idx2) := by
  obtain ⟨vs, hvs, -, rfl⟩ := State.takeThen_next h
  refine ⟨vs, _, hvs, ?_⟩
  cases hb : s.desc.ib2 with
  | none => simp [hb]
  | some b => simp [hb]

/-- Each primary index is its field (R200). -/
theorem State.indexState_idx1 {s t : State} (h : s.indexState = .next t) (i : Fin 16) :
    (t.idx1[i]).toNat = (field s.blk (s.bitPos + idxOffset (fun j => s.anchor[j]) s.desc.ib.bits i)
      (idxWidth (fun j => s.anchor[j]) s.desc.ib.bits i)).toNat := by
  obtain ⟨vs, _, hvs, hidx, -⟩ := State.indexState_next h
  have hval := takes_idxWidths (before := []) (s.idx1Widths_eq ▸ hvs) i
  simp only [List.length_nil, List.sum_nil, Nat.zero_add, Nat.add_zero] at hval
  rw [hidx, hval, toNat_ofNat_field _ _ ((idxWidth_le _ _ i).trans (indexBits_le_four _))]

/-- Each secondary index is its field, after the whole primary set (R202, R203). -/
theorem State.indexState_idx2 {s t : State} {b : IndexWidth} (h : s.indexState = .next t) (hb : s.desc.ib2 = some b)
    (hthree : b.bits ≤ 3) (i : Fin 16) :
    (t.idx2[i]).toNat = (field s.blk (s.bitPos + s.idx1Widths.sum + idxOffset (fun j => decide (j = 0)) b.bits i)
      (idxWidth (fun j => decide (j = 0)) b.bits i)).toNat := by
  obtain ⟨vs, _, hvs, -, hidx, -⟩ := State.indexState_next h
  rw [idx2Widths_of_some hb, ← List.append_nil (List.map _ _)] at hvs
  have hval := takes_idxWidths hvs i
  rw [State.idx1Widths_eq, List.length_map, List.length_finRange, ← State.idx1Widths_eq] at hval
  rw [hidx b hb, hval, toNat_ofNat_field _ _ ((idxWidth_le _ _ i).trans hthree)]

/-- The modes with a second set have one subset, and a second width of at most 3 bits (R51). -/
theorem mode_of_ib2 : ∀ m : Fin 8, ∀ b ∈ (Rom.mode m).ib2, (Rom.mode m).ns = .one ∧ b.bits ≤ 3 := by decide

theorem le_four_of_mem_idxWidths {anchor : Fin 16 → Bool} {b : IndexWidth} {n : Nat}
    (h : n ∈ (List.finRange 16).map (idxWidth anchor b.bits)) : n ≤ 4 := by
  obtain ⟨i, -, rfl⟩ := List.mem_map.mp h
  exact (idxWidth_le anchor b.bits i).trans (indexBits_le_four b)

/-- No index is over 4 bits wide. -/
theorem State.indexWidths_le (s : State) : ∀ n ∈ s.idx1Widths ++ idx2Widths s.desc, n ≤ 4 := by
  intro n hn
  rcases List.mem_append.mp hn with hn | hn
  · exact le_four_of_mem_idxWidths hn
  · cases hb : s.desc.ib2 with
    | none => simp [idx2Widths, hb] at hn
    | some b => exact le_four_of_mem_idxWidths (idx2Widths_of_some hb ▸ hn)

/-- In a decode in progress the index reads do not fault (R140). -/
theorem State.Decoding.indexState_completes {m : Fin 8} {s : State} (d : s.Decoding m) (hq : s.seq = .readIndices) :
    ∃ t, s.indexState = .next t := by
  have hend := d.bitPos_add_widthsRead (by simp [hq]) (by simp [hq]) (by simp [hq])
  simp only [State.widthsRead, hq, Seq.following, cursorAt] at hend
  obtain ⟨_, -, ht⟩ := State.takeThen_eq_next _ (fun n hn => (s.indexWidths_le n hn).trans (by decide)) hend.le
  exact ⟨_, ht⟩

/-- In a mode with a second set the primary one takes 16·ib − 1 bits: its only anchor is pixel 0 (R108). -/
theorem State.Decoding.idx1Widths_sum {m : Fin 8} {s : State} {b : IndexWidth} (d : s.Decoding m)
    (hq : s.seq = .readIndices) (hb : s.desc.ib2 = some b) : s.idx1Widths.sum = 16 * s.desc.ib.bits - 1 := by
  obtain ⟨hns, -⟩ := mode_of_ib2 m b (d.desc ▸ hb)
  rw [State.idx1Widths_sum (d.header.resolve_left (by simp [hq])), d.desc, hns]
  rfl

/-- Past the header pixel 0 is marked, whatever the partition (R162). -/
theorem State.anchor_zero {s : State} (h : s.headerSound = true) : s.anchor[(0 : Fin 16)] = true := by
  obtain ⟨-, -, -, -, hanchor⟩ := s.headerSound_iff.mp h
  rw [hanchor, Rom.isAnchor_iff]
  exact .inl rfl

/-- Settles O17: the two sets among the takes of `ReadIndices`, and the invariant for where the second one starts. -/
theorem indicesAreReadWithAnchorWidths : Obligations.IndicesAreReadWithAnchorWidths := by
  refine ⟨by decide, fun s hs hq => ?_, fun s t hs hq h => ?_⟩
  all_goals obtain ⟨m, d⟩ := State.decoding_of_inv hs (by simp [hq]) (by simp [hq]) (by simp [hq])
  · obtain ⟨t, ht⟩ := d.indexState_completes hq
    exact ⟨t, (State.tick_of_readIndices hq).trans ht⟩
  · have hpos := State.tick_bitPos_readIndices hs hq h
    rw [State.tick_of_readIndices hq] at h
    obtain ⟨_, _, -, -, -, hkeep⟩ := State.indexState_next h
    refine ⟨State.indexState_idx1 h, State.anchor_zero (d.header.resolve_left (by simp [hq])), fun b hb i => ?_, hkeep,
      hpos, State.indexState_frame h⟩
    obtain ⟨-, hthree⟩ := mode_of_ib2 m b (d.desc ▸ hb)
    rw [State.indexState_idx2 h hb hthree i, d.idx1Widths_sum hq hb, idxWidth_decide]

/-! ## The range of an index (R201, R204) -/

theorem idxWidth_of_anchor {anchor : Fin 16 → Bool} {i : Fin 16} (h : anchor i = true) (w : Nat) :
    idxWidth anchor w i = w - 1 :=
  if_pos h

/-- An operand of w bits keeps its value in a wider register. -/
theorem toNat_setWidth_lt {w v k : Nat} (hw : w ≤ v) {x : BitVec w} (h : x.toNat < k) : (x.setWidth v).toNat < k := by
  rwa [BitVec.toNat_setWidth_of_le hw]

theorem tab16_toNat_lt {v : Nat} {f : Fin 16 → BitVec v} {bound : Fin 16 → Nat} (h : ∀ k, (f k).toNat < bound k)
    (k : Fin 16) : ((tab16 f)[k]).toNat < bound k := by
  simpa using h k

/-- A decode in a valid mode leaves the anchors of a partition and the index operands in the registers, so
well-formedness bounds each index by the width of its field. -/
theorem exec_indices_lt {i : Instr} {m : Fin 8} {s t : State} (hm : i.mode = .valid m) (hwf : i.wellFormed = true)
    (h : exec i s = .next t) :
    ∃ p, (∀ k : Fin 16, t.anchor[k] = Rom.isAnchor (Rom.mode m).ns p k) ∧
      (∀ k : Fin 16, (t.idx1[k]).toNat < 2 ^ idxWidth (Rom.isAnchor (Rom.mode m).ns p) (Rom.mode m).ib.bits k) ∧
      ∀ b, (Rom.mode m).ib2 = some b → ∀ k : Fin 16, (t.idx2[k]).toNat < 2 ^ idxWidth Rom.isAnchor2nd b.bits k := by
  cases i <;> cases hm
  all_goals
    obtain ⟨-, rfl⟩ := State.finishDecode_next h
    simp only [Instr.wellFormed, Bool.and_eq_true, anchorsLow_iff] at hwf
  case mode0 | mode1 | mode2 | mode3 | mode7 =>
    exact ⟨_, fun _ => by simp [State.decoded], tab16_toNat_lt fun k => toNat_setWidth_lt (by decide) (hwf k), nofun⟩
  case mode4 | mode5 =>
    obtain ⟨h1, h2⟩ := hwf
    refine ⟨_, fun _ => by simp [State.decoded], tab16_toNat_lt fun k => toNat_setWidth_lt (by decide) (h1 k), ?_⟩
    rintro _ ⟨⟩
    exact tab16_toNat_lt fun k => toNat_setWidth_lt (by decide) (h2 k)
  case mode6 => exact ⟨_, fun _ => by simp [State.decoded], tab16_toNat_lt hwf, nofun⟩

/-- Settles O18: a block decodes to a well-formed instruction, and no field is wider than its set. -/
theorem indicesStayInRange : Obligations.IndicesStayInRange := by
  intro blk m s t hm h
  obtain ⟨hwf, -⟩ := encodeUndoesDecode blk
  obtain ⟨p, hanchor, h1, h2⟩ := exec_indices_lt ((mode_decodeBlock blk).trans hm) hwf h
  refine ⟨fun k => ⟨(h1 k).trans_le (Nat.pow_le_pow_right Nat.two_pos (idxWidth_le ..)), fun hk => ?_⟩,
    fun b hb => ⟨fun k => (h2 b hb k).trans_le (Nat.pow_le_pow_right Nat.two_pos (idxWidth_le ..)), h2 b hb 0⟩⟩
  rw [← idxWidth_of_anchor (hanchor k ▸ hk)]
  exact h1 k

end Sys2Proof.Machine
end

section
/-! PROOFS. The interpolator and the rotator (R220, R221, R228): the weighted sum of two bytes lies between 64 times the
lesser and 64 times the greater one, so it cannot overflow and rounds between the endpoints; and a rotation exchanges at
most two channels. -/

namespace Sys2Proof.Machine

/-! ## The rounded sum (R220) -/

/-- The two weights together are 64. -/
theorem mul_sub_add_mul {w : Nat} (hw : w ≤ 64) (c : Nat) : c * (64 - w) + c * w = c * 64 := by
  rw [← Nat.mul_add, Nat.sub_add_cancel hw]

theorem weightedSum_le {a b c w : Nat} (hw : w ≤ 64) (ha : a ≤ c) (hb : b ≤ c) : a * (64 - w) + b * w ≤ c * 64 :=
  mul_sub_add_mul hw c ▸ Nat.add_le_add (Nat.mul_le_mul_right _ ha) (Nat.mul_le_mul_right _ hb)

theorem le_weightedSum {a b c w : Nat} (hw : w ≤ 64) (ha : c ≤ a) (hb : c ≤ b) : c * 64 ≤ a * (64 - w) + b * w :=
  mul_sub_add_mul hw c ▸ Nat.add_le_add (Nat.mul_le_mul_right _ ha) (Nat.mul_le_mul_right _ hb)

/-- The sum of two bytes is at most 255 · 64, so the rounded quotient is a byte. -/
theorem toNat_interp (a b : Byte) {w : Nat} (hw : w ≤ 64) :
    (interp a b w).toNat = (a.toNat * (64 - w) + b.toNat * w + 32) / 64 := by
  have hsum := weightedSum_le hw (Nat.le_of_lt_succ a.isLt) (Nat.le_of_lt_succ b.isLt)
  rw [interp, Nat.shiftRight_eq_div_pow, BitVec.toNat_ofNat]
  exact Nat.mod_eq_of_lt (by omega)

/-! ## Ends, symmetry and bounds (R221) -/

theorem interp_zero (a b : Byte) : interp a b 0 = a := by
  refine BitVec.eq_of_toNat_eq ?_
  rw [toNat_interp a b (Nat.zero_le 64)]
  omega

theorem interp_swap (a b : Byte) {w : Nat} (hw : w ≤ 64) : interp a b w = interp b a (64 - w) := by
  rw [interp, interp, Nat.sub_sub_self hw, Nat.add_comm (b.toNat * w)]

/-- The other end, by the symmetry. -/
theorem interp_64 (a b : Byte) : interp a b 64 = b :=
  (interp_swap a b le_rfl).trans (interp_zero b a)

theorem min_le_interp (a b : Byte) {w : Nat} (hw : w ≤ 64) : min a.toNat b.toNat ≤ (interp a b w).toNat := by
  have hsum := le_weightedSum hw (min_le_left a.toNat b.toNat) (min_le_right a.toNat b.toNat)
  rw [toNat_interp a b hw, Nat.le_div_iff_mul_le (by decide)]
  exact hsum.trans (Nat.le_add_right _ 32)

theorem interp_le_max (a b : Byte) {w : Nat} (hw : w ≤ 64) : (interp a b w).toNat ≤ max a.toNat b.toNat := by
  have hsum := weightedSum_le hw (le_max_left a.toNat b.toNat) (le_max_right a.toNat b.toNat)
  rw [toNat_interp a b hw, ← Nat.lt_succ_iff, Nat.div_lt_iff_lt_mul (by decide), Nat.succ_mul]
  exact Nat.add_lt_add_of_le_of_lt hsum (by decide)

/-- Settles O24: the sum is that of the naturals, and weight 64 is the end that the symmetry gives. -/
theorem interpolationIsTheRoundedSum : Obligations.InterpolationIsTheRoundedSum :=
  ⟨fun a b _ hw => toNat_interp a b hw, interp_64⟩

/-- Settles O25: the ends and the symmetry, and the rounded quotient of a sum between 64 times each bound. -/
theorem interpolationStaysBetweenEndpoints : Obligations.InterpolationStaysBetweenEndpoints :=
  ⟨interp_zero, fun a _ hw => interp_self a hw, fun a b _ hw => interp_swap a b hw,
    fun a b _ hw => ⟨min_le_interp a b hw, interp_le_max a b hw⟩⟩

/-! ## The rotation as an exchange (R228) -/

theorem rotation_cases : ∀ r : BitVec 2, r = 0 ∨ r = 1 ∨ r = 2 ∨ r = 3 := by decide

theorem rotate_rotate (r : BitVec 2) (p : Rgba) : rotate r (rotate r p) = p := by
  obtain ⟨red, green, blue, alpha⟩ := p
  rcases rotation_cases r with rfl | rfl | rfl | rfl <;> simp only [rotate_eq]

/-- Exchanging the ends of a list permutes it. -/
theorem perm_exchange_ends {α : Type} (x y : α) (l : List α) : (x :: (l ++ [y])).Perm (y :: (l ++ [x])) :=
  calc (x :: (l ++ [y])).Perm (x :: y :: l) := (List.perm_append_singleton y l).cons x
    List.Perm _ (y :: x :: l) := .swap y x l
    List.Perm _ (y :: (l ++ [x])) := (List.perm_append_singleton x l).symm.cons y

/-- The channels that a rotation exchanges are the ends of a suffix of the four (R227). -/
theorem rotate_perm (r : BitVec 2) (p : Rgba) :
    [(rotate r p).r, (rotate r p).g, (rotate r p).b, (rotate r p).a].Perm [p.r, p.g, p.b, p.a] := by
  obtain ⟨red, green, blue, alpha⟩ := p
  rcases rotation_cases r with rfl | rfl | rfl | rfl <;> simp only [rotate_eq]
  · exact .refl _
  · exact perm_exchange_ends alpha red [green, blue]
  · exact (perm_exchange_ends alpha green [blue]).cons red
  · exact ((perm_exchange_ends alpha blue []).cons green).cons red

/-- Settles O27: an exchange undoes itself, and permutes the channels. -/
theorem rotationIsItsOwnInverse : Obligations.RotationIsItsOwnInverse :=
  fun r p => ⟨rotate_rotate r p, rotate_perm r p⟩

end Sys2Proof.Machine
end

section
/-! PROOFS. An instruction of a valid mode as operands put into the working registers (R252): one form of `exec` for the
eight modes, and what each register holds after it. -/

namespace Sys2Proof.Machine

/-! ## The operands of an instruction (R118, R119) -/

/-- The operands of an instruction at the widths of the working registers. `pbits` is one an endpoint or, shared, one a
subset; an operand that the mode does not have is not looked at. -/
structure Operands where
  partition : BitVec 6 := 0
  rotation : BitVec 2 := 0
  idxSel : BitVec 1 := 0
  colour : Nat → Colour 8 := default
  alpha : Nat → Byte := default
  pbits : Nat → BitVec 1 := default
  idx1 : Fin 16 → BitVec 4 := default
  idx2 : Fin 16 → BitVec 3 := default

/-- The operands of each instruction, zero-extended to the registers (R118). -/
def operandsOf : Instr → Operands
  | .mode0 p c pb ix =>
    { partition := p.setWidth 6, colour := fun e => widen (nth c e), pbits := nth pb,
      idx1 := fun i => ix[i].setWidth 4 }
  | .mode1 p c sp ix =>
    { partition := p, colour := fun e => widen (nth c e), pbits := nth sp, idx1 := fun i => ix[i].setWidth 4 }
  | .mode2 p c ix => { partition := p, colour := fun e => widen (nth c e), idx1 := fun i => ix[i].setWidth 4 }
  | .mode3 p c pb ix =>
    { partition := p, colour := fun e => widen (nth c e), pbits := nth pb, idx1 := fun i => ix[i].setWidth 4 }
  | .mode4 r sel c a ix jx =>
    { rotation := r, idxSel := sel, colour := fun e => widen (nth c e), alpha := fun e => (nth a e).setWidth 8,
      idx1 := fun i => ix[i].setWidth 4, idx2 := fun i => jx[i] }
  | .mode5 r c a ix jx =>
    { rotation := r, colour := fun e => widen (nth c e), alpha := nth a, idx1 := fun i => ix[i].setWidth 4,
      idx2 := fun i => jx[i].setWidth 3 }
  | .mode6 c a pb ix =>
    { colour := fun e => widen (nth c e), alpha := fun e => (nth a e).setWidth 8, pbits := nth pb,
      idx1 := fun i => ix[i] }
  | .mode7 p c a pb ix =>
    { partition := p, colour := fun e => widen (nth c e), alpha := fun e => (nth a e).setWidth 8, pbits := nth pb,
      idx1 := fun i => ix[i].setWidth 4 }
  | .reserved _ => {}

/-! ## The operands put into the registers, state by state of the sequencer (R250, R252) -/

/-- The raw endpoint channels, alpha where the mode has it (R180). -/
def State.loadEndpoints (o : Operands) (s : State) : State :=
  let t := s.putColour s.desc.ne o.colour
  if 0 < t.desc.ab then t.putAlpha t.desc.ne o.alpha else t

/-- The p-bits of the mode's kind (R181). -/
def State.loadPBits (o : Operands) (s : State) : State :=
  if s.desc.epb then s.putPBits s.desc.ne o.pbits
  else if s.desc.spb then s.putSharedPBits s.desc.ns.count o.pbits
  else s

/-- The indices of the mode's sets (R200, R202). -/
def State.loadIndices (o : Operands) (s : State) : State :=
  let t := s.putIdx1 o.idx1
  if t.desc.ib2.isSome then t.putIdx2 o.idx2 else t

/-- The registers just before the blend. -/
def State.load (m : Fin 8) (o : Operands) (s : State) : State :=
  (((((s.enterMode m).putHeader o.partition o.rotation o.idxSel).loadEndpoints o).loadPBits o).dequantize).loadIndices o

/-- Every instruction of a valid mode puts its operands into the registers and ends as every decode does. -/
theorem exec_eq_load {i : Instr} {m : Fin 8} (hm : i.mode = .valid m) (s : State) :
    exec i s = (s.load m (operandsOf i)).finishDecode := by
  cases i <;> cases hm <;> rfl

/-! ## What each of them writes, in one equation -/

/-- Endpoint register e with the operands in it, over its prior value: past the mode's endpoints that value stays, and
so does its alpha in a mode with none (log 4). -/
def Operands.rawEndpoint (o : Operands) (d : ModeDesc) (e : Nat) (prior : Rgba) : Rgba :=
  if e < d.ne then
    ⟨(o.colour e).r, (o.colour e).g, (o.colour e).b, if 0 < d.ab then o.alpha e else prior.a⟩
  else prior

/-- The p-bit register of endpoint e over its prior value: its own p-bit, or that of subset e >> 1 (R181). -/
def Operands.pbitOf (o : Operands) (d : ModeDesc) (e : Nat) (prior : BitVec 1) : BitVec 1 :=
  if e < d.ne then if d.epb then o.pbits e else if d.spb then o.pbits (e / 2) else prior else prior

/-- The shared p-bit of subset k over its prior value (R181). -/
def Operands.sharedPBitOf (o : Operands) (d : ModeDesc) (k : Nat) (prior : BitVec 1) : BitVec 1 :=
  if d.epb = false ∧ d.spb = true ∧ k < d.ns.count then o.pbits k else prior

theorem State.loadEndpoints_eq (o : Operands) (s : State) :
    s.loadEndpoints o = { s with epRaw := tab6 fun e => o.rawEndpoint s.desc e s.epRaw[e] } := by
  by_cases ha : 0 < s.desc.ab
  · simp only [State.loadEndpoints, ha, if_true, State.putAlpha, State.putColour, Operands.rawEndpoint]
    congr 2
    funext e
    by_cases he : e.val < s.desc.ne <;> simp [he]
  · simp only [State.loadEndpoints, ha, if_false, State.putColour, Operands.rawEndpoint]

theorem State.loadPBits_eq (o : Operands) (s : State) :
    s.loadPBits o = { s with
      pbit := tab6 fun e => o.pbitOf s.desc e s.pbit[e]
      sp := tab3 fun k => o.sharedPBitOf s.desc k s.sp[k] } := by
  have hsp : (tab3 fun k => s.sp[k]) = s.sp := (tab3_eq_iff _ _).mpr fun _ => rfl
  have hpb : (tab6 fun e => s.pbit[e]) = s.pbit := (tab6_eq_iff _ _).mpr fun _ => rfl
  unfold State.loadPBits Operands.pbitOf Operands.sharedPBitOf
  cases he : s.desc.epb with
  | true => simp only [if_true, State.putPBits, Bool.true_eq_false, false_and, if_false, hsp]
  | false =>
    cases hs : s.desc.spb with
    | true => simp [State.putSharedPBits, ModeDesc.ne]
    | false => simp only [Bool.false_eq_true, if_false, and_false, false_and, ite_self, hsp, hpb]

theorem State.loadIndices_eq (o : Operands) (s : State) :
    s.loadIndices o = { s with
      idx1 := tab16 o.idx1
      idx2 := if s.desc.ib2.isSome then tab16 o.idx2 else s.idx2 } := by
  unfold State.loadIndices
  by_cases h : s.desc.ib2.isSome = true <;> simp [h, State.putIdx1, State.putIdx2]

/-- The working registers just before the blend, each as a function of the operands and its prior value. -/
theorem State.load_eq (m : Fin 8) (o : Operands) (s : State) :
    s.load m o = { s with
      mode := .valid m
      desc := Rom.mode m
      partition := o.partition
      rotation := o.rotation
      idxSel := o.idxSel
      epRaw := tab6 fun e => o.rawEndpoint (Rom.mode m) e s.epRaw[e]
      pbit := tab6 fun e => o.pbitOf (Rom.mode m) e s.pbit[e]
      sp := tab3 fun k => o.sharedPBitOf (Rom.mode m) k s.sp[k]
      ep := tab6 fun e =>
        if e.val < (Rom.mode m).ne then
          dqEndpoint (Rom.mode m) (o.rawEndpoint (Rom.mode m) e s.epRaw[e])
            (pOf (Rom.mode m) (o.pbitOf (Rom.mode m) e s.pbit[e]))
        else s.ep[e]
      idx1 := tab16 o.idx1
      idx2 := if (Rom.mode m).ib2.isSome then tab16 o.idx2 else s.idx2
      subsetOf := tab16 fun i => Rom.subsetAt (Rom.mode m).ns o.partition i
      anchor := tab16 fun i => Rom.isAnchor (Rom.mode m).ns o.partition i } := by
  simp only [State.load, State.loadEndpoints_eq, State.loadPBits_eq, State.loadIndices_eq]
  simp [State.enterMode, State.putHeader, State.selectPartition, State.dequantize]

/-! ## The registers after a decode -/

theorem State.blendedPixel_decoded (s : State) (i : Fin 16) : s.decoded.blendedPixel i = s.blendedPixel i := rfl

/-- t is what a decode in mode m with operands o leaves of s, register by register. -/
structure State.Holds (m : Fin 8) (o : Operands) (s t : State) : Prop where
  left : LeftBy m s t
  partition : t.partition = o.partition
  rotation : t.rotation = o.rotation
  idxSel : t.idxSel = o.idxSel
  epRaw : ∀ e : Fin 6, t.epRaw[e] = o.rawEndpoint (Rom.mode m) e s.epRaw[e]
  pbit : ∀ e : Fin 6, t.pbit[e] = o.pbitOf (Rom.mode m) e s.pbit[e]
  sp : ∀ k : Fin 3, t.sp[k] = o.sharedPBitOf (Rom.mode m) k s.sp[k]
  ep : ∀ e : Fin 6, e.val < (Rom.mode m).ne →
    t.ep[e] = dqEndpoint (Rom.mode m) t.epRaw[e] (pOf (Rom.mode m) t.pbit[e])
  ep_kept : ∀ e : Fin 6, (Rom.mode m).ne ≤ e.val → t.ep[e] = s.ep[e]
  idx1 : ∀ i : Fin 16, t.idx1[i] = o.idx1 i
  idx2 : (Rom.mode m).ib2.isSome = true → ∀ i : Fin 16, t.idx2[i] = o.idx2 i
  idx2_kept : (Rom.mode m).ib2 = none → t.idx2 = s.idx2
  px : ∀ i : Fin 16, t.px[i] = rotate t.rotation (t.blendedPixel i)
  freeCount : t.freeCount = s.freeCount

/-- Everything an instruction of a valid mode that completes does to the registers. -/
theorem exec_holds {i : Instr} {m : Fin 8} {s t : State} (hm : i.mode = .valid m) (h : exec i s = .next t) :
    s.Holds m (operandsOf i) t := by
  obtain ⟨-, -, -, hdest⟩ := exec_next h
  obtain ⟨-, rfl⟩ := State.finishDecode_next (exec_eq_load hm s ▸ h)
  constructor
  case left => exact ⟨by simp [State.decoded, State.load_eq], by simp [State.decoded, State.load_eq],
    by simp [State.decoded, Config.blockBits], by simp [State.decoded], by simp [State.decoded],
    by simp [State.decoded, State.load_eq], by simp [State.decoded, State.load_eq], hdest⟩
  case px => exact fun i => (State.decoded_px _ i).trans (by rw [State.blendedPixel_decoded]; rfl)
  case ep => exact fun e he => by simp [State.decoded, State.load_eq, he]
  case ep_kept => exact fun e he => by simp [State.decoded, State.load_eq, Nat.not_lt.mpr he]
  all_goals simp +contextual [State.decoded, State.load_eq]

end Sys2Proof.Machine
end

section
/-! PROOFS. The nine instructions by their rules (R253 to R262): the endpoints as the dequantizer makes them from the
operands, and the pixels as the interpolator blends them. -/

namespace Sys2Proof.Machine

/-! ## Endpoints from operands (R183, R184) -/

/-- A field zero-extended to the register and joined with a p-bit. -/
theorem dqChan_setWidth_some {w : Nat} (hw : w ≤ 8) (x : BitVec w) (bits : Nat) (p : BitVec 1) :
    dqChan (x.setWidth 8) bits (some p) = dq (2 * x.toNat + p.toNat) (bits + 1) := by
  rw [pBitJoinsBelowTheRawValue.1, BitVec.toNat_setWidth_of_le hw]

/-- A field zero-extended to the register, with no p-bit. -/
theorem dqChan_setWidth_none {w : Nat} (hw : w ≤ 8) (x : BitVec w) (bits : Nat) :
    dqChan (x.setWidth 8) bits none = dq x.toNat bits := by
  rw [pBitJoinsBelowTheRawValue.2, BitVec.toNat_setWidth_of_le hw]

/-- Eight bits are a channel as they stand (R182). -/
theorem dq_eight {v : Nat} (hv : v < 256) : dq v 8 = BitVec.ofNat 8 v := by
  refine BitVec.eq_of_toNat_eq ?_
  rw [toNat_dq (by decide) le_rfl hv, BitVec.toNat_ofNat, Nat.mod_eq_of_lt hv]
  simp [Nat.div_eq_of_lt hv]

/-- Seven bits and the p-bit below them are a channel (R256, R259). -/
theorem dq_append (x : BitVec 7) (p : BitVec 1) : dq (2 * x.toNat + p.toNat) 8 = x ++ p := by
  have happ : (x ++ p).toNat = 2 * x.toNat + p.toNat := by
    rw [BitVec.toNat_append, ← Nat.shiftLeft_add_eq_or_of_lt p.isLt, Nat.shiftLeft_eq, Nat.mul_comm]
  rw [← happ, dq_eight (x ++ p).isLt, BitVec.ofNat_toNat, BitVec.setWidth_eq]

theorem colourEndpointP_seven (c : Colour 7) (p : BitVec 1) :
    colourEndpointP 7 c p = ⟨c.r ++ p, c.g ++ p, c.b ++ p, 255⟩ := by
  simp only [← dq_append]
  rfl

theorem alphaEndpointP_seven (c : Colour 7) (a : BitVec 7) (p : BitVec 1) :
    alphaEndpointP 7 c a p = ⟨c.r ++ p, c.g ++ p, c.b ++ p, a ++ p⟩ := by
  simp only [← dq_append]
  rfl

/-! ## A decode's endpoints and pixels (R226) -/

theorem ne_le_six (m : Fin 8) : (Rom.mode m).ne ≤ 6 := by decide +revert

section
variable {m : Fin 8} {o : Operands} {s t : State}

theorem State.Holds.epRaw_eq (h : s.Holds m o t) {e : Nat} (he : e < (Rom.mode m).ne) (h6 : e < 6) :
    t.epRaw[e] = ⟨(o.colour e).r, (o.colour e).g, (o.colour e).b,
      if 0 < (Rom.mode m).ab then o.alpha e else (s.epRaw[e]).a⟩ :=
  (h.epRaw ⟨e, h6⟩).trans (if_pos he)

theorem State.Holds.pbit_eq (h : s.Holds m o t) {e : Nat} (he : e < (Rom.mode m).ne) (h6 : e < 6) :
    t.pbit[e] = if (Rom.mode m).epb then o.pbits e else if (Rom.mode m).spb then o.pbits (e / 2) else s.pbit[e] :=
  (h.pbit ⟨e, h6⟩).trans (if_pos he)

theorem State.Holds.ep_eq (h : s.Holds m o t) {e : Nat} (he : e < (Rom.mode m).ne) (h6 : e < 6) :
    t.ep[e] = dqEndpoint (Rom.mode m) t.epRaw[e] (pOf (Rom.mode m) t.pbit[e]) :=
  h.ep ⟨e, h6⟩ he

/-- An operand's colour stands in the register (R118). -/
theorem State.Holds.rawColour (h : s.Holds m o t) {w : Nat} {e : Nat} (he : e < (Rom.mode m).ne) (h6 : e < 6)
    {c : Colour w} (hc : o.colour e = widen c) : RawColour t.epRaw[e] c := by
  rw [h.epRaw_eq he h6, hc]
  exact ⟨rfl, rfl, rfl⟩

/-- An operand's alpha stands in the register, in a mode that has it. -/
theorem State.Holds.rawAlpha (h : s.Holds m o t) {e : Nat} (he : e < (Rom.mode m).ne) (h6 : e < 6)
    (ha : 0 < (Rom.mode m).ab) : (t.epRaw[e]).a = o.alpha e := by
  rw [h.epRaw_eq he h6, if_pos ha]

/-- An endpoint of a mode with no alpha, from its colour and the p-bit it uses. -/
theorem State.Holds.ep_colour (h : s.Holds m o t) {e w : Nat} (he : e < (Rom.mode m).ne) (h6 : e < 6)
    (ha : (Rom.mode m).ab = 0) {c : Colour w} (hw : w ≤ 8) (hc : o.colour e = widen c) {p : BitVec 1}
    (hp : pOf (Rom.mode m) t.pbit[e] = some p) : t.ep[e] = colourEndpointP (Rom.mode m).cb c p := by
  rw [h.ep_eq he h6, h.epRaw_eq he h6, hp, hc]
  simp [dqEndpoint, widen, dqChan_setWidth_some hw, colourEndpointP, ha]

/-- An endpoint whose four channels join the p-bit it uses. -/
theorem State.Holds.ep_alpha (h : s.Holds m o t) {e w : Nat} (he : e < (Rom.mode m).ne) (h6 : e < 6)
    (hb : (Rom.mode m).ab = (Rom.mode m).cb) (hpos : 0 < (Rom.mode m).cb) {c : Colour w} {a : BitVec w} (hw : w ≤ 8)
    (hc : o.colour e = widen c) (ha : o.alpha e = a.setWidth 8) {p : BitVec 1}
    (hp : pOf (Rom.mode m) t.pbit[e] = some p) : t.ep[e] = alphaEndpointP (Rom.mode m).cb c a p := by
  rw [h.ep_eq he h6, h.epRaw_eq he h6, hp, hc, ha]
  simp [dqEndpoint, widen, dqChan_setWidth_some hw, alphaEndpointP, hb, hpos]

/-- An endpoint of a mode with no p-bit. -/
theorem State.Holds.ep_plain (h : s.Holds m o t) {e w v : Nat} (he : e < (Rom.mode m).ne) (h6 : e < 6) {c : Colour w}
    {a : BitVec v} (hw : w ≤ 8) (hv : v ≤ 8) (hc : o.colour e = widen c)
    (ha : 0 < (Rom.mode m).ab → o.alpha e = a.setWidth 8) (hp : pOf (Rom.mode m) t.pbit[e] = none) :
    t.ep[e] = ⟨dq c.r.toNat (Rom.mode m).cb, dq c.g.toNat (Rom.mode m).cb, dq c.b.toNat (Rom.mode m).cb,
      if 0 < (Rom.mode m).ab then dq a.toNat (Rom.mode m).ab else 255⟩ := by
  rw [h.ep_eq he h6, h.epRaw_eq he h6, hp, hc]
  by_cases hpos : 0 < (Rom.mode m).ab
  · simp [dqEndpoint, widen, dqChan_setWidth_none, hw, hv, hpos, ha hpos]
  · simp [dqEndpoint, widen, dqChan_setWidth_none, hw, hpos]

/-- The pixels of a mode with one index set, by any function that gives the mode's endpoints. -/
theorem State.Holds.px_one_set (h : s.Holds m o t) (h2 : (Rom.mode m).ib2 = none) (hr : o.rotation = 0) {F : Nat → Rgba}
    (hF : ∀ (e : Nat) (h6 : e < 6), e < (Rom.mode m).ne → t.ep[e] = F e) (i : Fin 16) :
    t.px[i] = pixelOf F (Rom.subsetAt (Rom.mode m).ns o.partition i) (Rom.weight (Rom.mode m).ib (o.idx1 i).toNat) := by
  obtain ⟨-, hdesc, -, -, -, hsub, -, -⟩ := h.left
  have hlt := subsetAt_lt (Rom.mode m).ns o.partition i
  have hend : ∀ e, e < (Rom.mode m).ne → nth t.ep e = F e := fun e he =>
    (nth_of_lt t.ep (he.trans_le (ne_le_six m))).trans (hF e _ he)
  rw [h.px, h.rotation, hr, State.blendedPixel_of_one_set (hdesc ▸ h2), hsub, h.partition, h.idx1, hdesc, pixelOf,
    hend _ (Nat.mul_lt_mul_of_pos_left hlt Nat.two_pos), hend _ (by rw [ModeDesc.ne]; omega)]
  rfl

/-- The pixels of a mode with two index sets: one subset, a weight for colour and one for alpha, the rotation last. -/
theorem State.Holds.px_dual (h : s.Holds m o t) (hns : (Rom.mode m).ns = .one) (h2 : (Rom.mode m).ib2.isSome = true)
    {i : Fin 16} {w : Nat × Nat} (hw : weightsOf (Rom.mode m) o.idxSel (o.idx1 i) (o.idx2 i) = w) :
    t.px[i] = dualPixelOf o.rotation t.ep[0] t.ep[1] w.1 w.2 := by
  obtain ⟨-, hdesc, -, -, -, hsub, -, -⟩ := h.left
  have h0 : t.subsetOf[i] = 0 := by rw [hsub, hns]; rfl
  rw [h.px, h.rotation, State.blendedPixel, h.idxSel, h.idx1, h.idx2 h2, hdesc, hw]
  simp only [State.loEndpoint, State.hiEndpoint, h0]
  rfl

end

/-! ## Weights of index operands (R205) -/

theorem weight_two (v : BitVec 2) : Rom.weight .two v.toNat = Rom.w2.getD v.toNat 0 := by
  rw [Rom.weight, Nat.mod_eq_of_lt v.isLt]

theorem weight_three (v : BitVec 3) : Rom.weight .three v.toNat = Rom.w3.getD v.toNat 0 := by
  rw [Rom.weight, Nat.mod_eq_of_lt v.isLt]

theorem weight_four (v : BitVec 4) : Rom.weight .four v.toNat = Rom.w4.getD v.toNat 0 := by
  rw [Rom.weight, Nat.mod_eq_of_lt v.isLt]

theorem toNat_index {w : Nat} (hw : w ≤ 4) (v : BitVec w) : (v.setWidth 4).toNat = v.toNat :=
  BitVec.toNat_setWidth_of_le hw

/-- Selector 0 gives colour the 2-bit set and alpha the 3-bit set, selector 1 the other way about (R257). -/
theorem weightsOf_mode4 (sel : BitVec 1) (v : BitVec 2) (w : BitVec 3) :
    weightsOf (Rom.mode 4) sel (v.setWidth 4) w =
      if sel = 0 then (Rom.w2.getD v.toNat 0, Rom.w3.getD w.toNat 0)
      else (Rom.w3.getD w.toNat 0, Rom.w2.getD v.toNat 0) := by
  rw [← weight_two, ← weight_three, ← toNat_index (by decide) v]
  rfl

/-- The primary set gives colour its weight, the secondary alpha (R258). -/
theorem weightsOf_mode5 (v w : BitVec 2) :
    weightsOf (Rom.mode 5) 0 (v.setWidth 4) (w.setWidth 3) = (Rom.w2.getD v.toNat 0, Rom.w2.getD w.toNat 0) := by
  have hw : (w.setWidth 3).toNat = w.toNat := BitVec.toNat_setWidth_of_le (by decide)
  rw [← weight_two, ← weight_two, ← toNat_index (by decide) v, ← hw]
  rfl

/-! ## MODE0 to MODE7 (R253 to R260) -/

theorem nth_val {α : Type} [Inhabited α] {k : Nat} (v : Vector α k) (e : Fin k) : nth v e.val = v[e] :=
  nth_of_lt v e.isLt

/-- Within the duties an instruction of mode m completes with its operands in the registers. -/
theorem exec_completes_holds {i : Instr} {m : Fin 8} {s : State} (hm : i.mode = .valid m) (hd : s.dutiesMet = true) :
    ∃ t, exec i s = .next t ∧ s.Holds m (operandsOf i) t := by
  obtain ⟨t, ht⟩ := exec_completes i hd
  exact ⟨t, ht, exec_holds hm ht⟩

/-- Settles O28: each endpoint joins its own p-bit. -/
theorem mode0DecodesByItsRule : Obligations.Mode0DecodesByItsRule := by
  intro p col pb ix s hd
  obtain ⟨t, ht, h⟩ := exec_completes_holds (i := .mode0 p col pb ix) rfl hd
  have hpb : ∀ (e : Nat) (h6 : e < 6), t.pbit[e] = nth pb e := fun e h6 => h.pbit_eq (e := e) h6 h6
  have hep : ∀ (e : Nat) (h6 : e < 6), t.ep[e] = colourEndpointP 4 (nth col e) (nth pb e) := fun e h6 =>
    h.ep_colour (e := e) h6 h6 rfl (by decide) rfl (congrArg some (hpb e h6))
  refine ⟨t, ht, h.left, h.partition, h.rotation, h.idxSel, Vector.ext fun e h6 => ?_, fun e => ?_, fun e => ?_,
    fun i => ⟨?_, ?_⟩⟩
  · rw [hpb e h6, nth_of_lt]
  · rw [← nth_val col, ← nth_val pb]
    exact hep e e.isLt
  · exact h.rawColour (e := e) e.isLt e.isLt (congrArg widen (nth_val col e))
  · exact (congrArg _ (h.idx1 i)).trans (toNat_index (by decide) _)
  · rw [h.px_one_set rfl rfl fun e h6 _ => hep e h6, ← weight_three, ← toNat_index (by decide) ix[i]]
    rfl

/-- Settles O29: each endpoint joins the p-bit of its subset. -/
theorem mode1DecodesByItsRule : Obligations.Mode1DecodesByItsRule := by
  intro p col sp ix s hd
  obtain ⟨t, ht, h⟩ := exec_completes_holds (i := .mode1 p col sp ix) rfl hd
  have hpb : ∀ (e : Nat) (h6 : e < 6), e < 4 → t.pbit[e] = nth sp (e / 2) := fun e h6 he => h.pbit_eq (e := e) he h6
  have hep : ∀ (e : Nat) (h6 : e < 6), e < 4 → t.ep[e] = colourEndpointP 6 (nth col e) (nth sp (e / 2)) :=
    fun e h6 he => h.ep_colour (e := e) he h6 rfl (by decide) rfl (congrArg some (hpb e h6 he))
  refine ⟨t, ht, h.left, h.partition, h.rotation, h.idxSel, fun e => ⟨hpb e _ e.isLt, ?_⟩, fun u => ?_, fun e => ?_,
    fun i => ⟨?_, ?_⟩⟩
  · rw [← nth_val col]
    exact hep e _ e.isLt
  · rw [← nth_val sp]
    exact (h.sp ⟨u, by omega⟩).trans (if_pos ⟨rfl, rfl, u.isLt⟩)
  · exact h.rawColour (e := e) e.isLt _ (congrArg widen (nth_val col e))
  · exact (congrArg _ (h.idx1 i)).trans (toNat_index (by decide) _)
  · rw [h.px_one_set rfl rfl hep, ← weight_three, ← toNat_index (by decide) ix[i]]
    rfl

/-- Settles O30: no endpoint joins a p-bit. -/
theorem mode2DecodesByItsRule : Obligations.Mode2DecodesByItsRule := by
  intro p col ix s hd
  obtain ⟨t, ht, h⟩ := exec_completes_holds (i := .mode2 p col ix) rfl hd
  have hep : ∀ (e : Nat) (h6 : e < 6), t.ep[e] =
      ⟨dq (nth col e).r.toNat 5, dq (nth col e).g.toNat 5, dq (nth col e).b.toNat 5, 255⟩ := fun e h6 =>
    h.ep_plain (e := e) (a := 0#0) h6 h6 (by decide) (by decide) rfl nofun rfl
  refine ⟨t, ht, h.left, h.partition, h.rotation, h.idxSel, fun e => ?_, fun e => ?_, fun i => ⟨?_, ?_⟩⟩
  · rw [← nth_val col]
    exact hep e e.isLt
  · exact h.rawColour (e := e) e.isLt e.isLt (congrArg widen (nth_val col e))
  · exact (congrArg _ (h.idx1 i)).trans (toNat_index (by decide) _)
  · rw [h.px_one_set rfl rfl fun e h6 _ => hep e h6, ← weight_two, ← toNat_index (by decide) ix[i]]
    rfl

/-- Settles O31: seven bits and the p-bit are the channel. -/
theorem mode3DecodesByItsRule : Obligations.Mode3DecodesByItsRule := by
  intro p col pb ix s hd
  obtain ⟨t, ht, h⟩ := exec_completes_holds (i := .mode3 p col pb ix) rfl hd
  have hpb : ∀ (e : Nat) (h6 : e < 6), e < 4 → t.pbit[e] = nth pb e := fun e h6 he => h.pbit_eq (e := e) he h6
  have hep : ∀ (e : Nat) (h6 : e < 6), e < 4 → t.ep[e] = colourEndpointP 7 (nth col e) (nth pb e) := fun e h6 he =>
    h.ep_colour (e := e) he h6 rfl (by decide) rfl (congrArg some (hpb e h6 he))
  refine ⟨t, ht, h.left, h.partition, h.rotation, h.idxSel, fun e => ?_, fun e => ?_, fun i => ⟨?_, ?_⟩⟩
  · rw [← nth_val col, ← nth_val pb, ← colourEndpointP_seven]
    exact ⟨hpb e _ e.isLt, hep e _ e.isLt⟩
  · exact h.rawColour (e := e) e.isLt _ (congrArg widen (nth_val col e))
  · exact (congrArg _ (h.idx1 i)).trans (toNat_index (by decide) _)
  · rw [h.px_one_set rfl rfl hep, ← weight_two, ← toNat_index (by decide) ix[i]]
    rfl

/-- Settles O32: the selector chooses which set weighs colour. -/
theorem mode4DecodesByItsRule : Obligations.Mode4DecodesByItsRule := by
  intro r sel col a ix jx s hd
  obtain ⟨t, ht, h⟩ := exec_completes_holds (i := .mode4 r sel col a ix jx) rfl hd
  refine ⟨t, ht, h.left, h.partition, h.rotation, h.idxSel, fun e => ?_, fun e => ?_, fun i => ⟨?_, h.idx2 rfl i, ?_⟩⟩
  · rw [← nth_val col, ← nth_val a]
    exact h.ep_plain (e := e) e.isLt _ (by decide) (by decide) rfl (fun _ => rfl) rfl
  · rw [← nth_val col, ← nth_val a]
    exact ⟨h.rawColour (e := e) e.isLt _ rfl, h.rawAlpha (e := e) e.isLt _ (by decide)⟩
  · exact (congrArg _ (h.idx1 i)).trans (toNat_index (by decide) _)
  · have hpx := h.px_dual rfl rfl (weightsOf_mode4 sel ix[i] jx[i])
    constructor <;> rintro rfl <;> exact hpx

/-- Settles O33: the primary set weighs colour, the secondary alpha. -/
theorem mode5DecodesByItsRule : Obligations.Mode5DecodesByItsRule := by
  intro r col a ix jx s hd
  obtain ⟨t, ht, h⟩ := exec_completes_holds (i := .mode5 r col a ix jx) rfl hd
  have halpha : ∀ e, (operandsOf (.mode5 r col a ix jx)).alpha e = (nth a e).setWidth 8 := fun e =>
    (BitVec.setWidth_eq _).symm
  refine ⟨t, ht, h.left, h.partition, h.rotation, h.idxSel, fun e => ?_, fun e => ?_, fun i => ⟨?_, ?_, ?_⟩⟩
  · have hdq : dq (nth a e).toNat 8 = nth a e := by
      rw [dq_eight (nth a e).isLt, BitVec.ofNat_toNat, BitVec.setWidth_eq]
    rw [← nth_val col, ← nth_val a, ← hdq]
    exact h.ep_plain (e := e) e.isLt _ (by decide) (by decide) rfl (fun _ => halpha e) rfl
  · rw [← nth_val col, ← nth_val a]
    exact ⟨h.rawColour (e := e) e.isLt _ rfl, (h.rawAlpha (e := e) e.isLt _ (by decide)).trans (halpha e)⟩
  · exact (congrArg _ (h.idx1 i)).trans (toNat_index (by decide) _)
  · exact (congrArg _ (h.idx2 rfl i)).trans (BitVec.toNat_setWidth_of_le (by decide))
  · have hpx := h.px_dual rfl rfl (weightsOf_mode5 ix[i] jx[i])
    exact hpx

/-- Settles O34: four channels of seven bits join one p-bit. -/
theorem mode6DecodesByItsRule : Obligations.Mode6DecodesByItsRule := by
  intro col a pb ix s hd
  obtain ⟨t, ht, h⟩ := exec_completes_holds (i := .mode6 col a pb ix) rfl hd
  have hpb : ∀ (e : Nat) (h6 : e < 6), e < 2 → t.pbit[e] = nth pb e := fun e h6 he => h.pbit_eq (e := e) he h6
  have hep : ∀ (e : Nat) (h6 : e < 6), e < 2 → t.ep[e] = alphaEndpointP 7 (nth col e) (nth a e) (nth pb e) :=
    fun e h6 he => h.ep_alpha (e := e) he h6 rfl (by decide) (by decide) rfl rfl (congrArg some (hpb e h6 he))
  refine ⟨t, ht, h.left, h.partition, h.rotation, h.idxSel, fun e => ?_, fun e => ?_, fun i => ⟨h.idx1 i, ?_⟩⟩
  · rw [← nth_val col, ← nth_val a, ← nth_val pb, ← alphaEndpointP_seven]
    exact ⟨hpb e _ e.isLt, hep e _ e.isLt⟩
  · rw [← nth_val col, ← nth_val a]
    exact ⟨h.rawColour (e := e) e.isLt _ rfl, h.rawAlpha (e := e) e.isLt _ (by decide)⟩
  · rw [h.px_one_set rfl rfl hep, ← weight_four]
    rfl

/-- Settles O35: four channels join the p-bit of their endpoint. -/
theorem mode7DecodesByItsRule : Obligations.Mode7DecodesByItsRule := by
  intro p col a pb ix s hd
  obtain ⟨t, ht, h⟩ := exec_completes_holds (i := .mode7 p col a pb ix) rfl hd
  have hpb : ∀ (e : Nat) (h6 : e < 6), e < 4 → t.pbit[e] = nth pb e := fun e h6 he => h.pbit_eq (e := e) he h6
  have hep : ∀ (e : Nat) (h6 : e < 6), e < 4 → t.ep[e] = alphaEndpointP 5 (nth col e) (nth a e) (nth pb e) :=
    fun e h6 he => h.ep_alpha (e := e) he h6 rfl (by decide) (by decide) rfl rfl (congrArg some (hpb e h6 he))
  refine ⟨t, ht, h.left, h.partition, h.rotation, h.idxSel, fun e => ?_, fun e => ?_, fun i => ⟨?_, ?_⟩⟩
  · rw [← nth_val col, ← nth_val a, ← nth_val pb]
    exact ⟨hpb e _ e.isLt, hep e _ e.isLt⟩
  · rw [← nth_val col, ← nth_val a]
    exact ⟨h.rawColour (e := e) e.isLt _ rfl, h.rawAlpha (e := e) e.isLt _ (by decide)⟩
  · exact (congrArg _ (h.idx1 i)).trans (toNat_index (by decide) _)
  · rw [h.px_one_set rfl rfl hep, ← weight_two, ← toNat_index (by decide) ix[i]]
    rfl

/-! ## RESERVED (R261, R262) -/

/-- What RESERVED answers: the fill, written, with the cursor at 0. -/
theorem execReserved_next {u : BitVec 120} {s t : State} (h : exec (.reserved u) s = .next t) :
    t = (s.enterReserved.putCursor 0).written :=
  (State.writeOutput_next h).2

/-- Settles O36: the bytes are those of the word of opaque black. -/
theorem reservedDecodesToOpaqueBlack : Obligations.ReservedDecodesToOpaqueBlack := by
  intro u s hd
  obtain ⟨t, ht⟩ := exec_completes (.reserved u) hd
  obtain ⟨-, -, -, hdest⟩ := exec_next ht
  obtain rfl := execReserved_next ht
  have hpx : ∀ i : Fin 16, (s.enterReserved.putCursor 0).written.px[i] = opaqueBlack := fun i => by simp
  refine ⟨_, ht, rfl, rfl, rfl, rfl, hpx, hdest, fun i hb => ?_⟩
  have hread : ∀ k, k < 4 → _ = some ((rgbaWord opaqueBlack).extractLsb' (8 * k) 8) := fun k hk =>
    hpx i ▸ (s.enterReserved.putCursor 0).written.read_writePixels (mem_pixelNumbers i) hb s.dest hk
  rw [hdest]
  exact ⟨hread 0 (by decide), hread 1 (by decide), hread 2 (by decide), hread 3 (by decide)⟩

end Sys2Proof.Machine
end

section
/-! PROOFS. What the nine instructions leave alone (R264), where they write (R92, R264), and what their output depends
on (R265, R267). -/

namespace Sys2Proof.Machine

/-! ## Frames -/

theorem exec_blk {i : Instr} {s t : State} (h : exec i s = .next t) : t.blk = s.blk := by
  cases hm : i.mode with
  | valid m =>
    obtain ⟨-, rfl⟩ := State.finishDecode_next (exec_eq_load hm s ▸ h)
    simp [State.decoded, State.load_eq]
  | reserved =>
    cases i <;> cases hm
    rw [execReserved_next h]
    rfl

theorem State.SameTarget.inBounds {s t : State} (h : s.SameTarget t) (i : Fin 16) : t.inBounds i = s.inBounds i := by
  rw [Bool.eq_iff_iff, t.inBounds_iff, s.inBounds_iff, h.blockX, h.blockY, h.imageWidth, h.imageHeight]

theorem State.SameTarget.pixelOffset {s t : State} (h : s.SameTarget t) (i : Fin 16) :
    t.pixelOffset i = s.pixelOffset i := by
  simp only [State.pixelOffset, State.pixelX, State.pixelY, h.blockX, h.blockY, h.imageWidth]

/-- What every instruction leaves alone: its writes go to in-bounds pixels of the latched request. -/
theorem exec_portsKept {i : Instr} {s t : State} (h : exec i s = .next t) : PortsKept s t := by
  obtain ⟨-, ht, -, hdest⟩ := exec_next h
  refine ⟨ht.requests, exec_blk h, ht.blockX, ht.blockY, ht.imageWidth, ht.imageHeight, ht.destLen, ht.inFlight,
    ht.resetIn, fun a ha => ?_⟩
  rw [hdest]
  exact t.read_writePixels_other _ _ a fun i _ hb => ht.pixelOffset i ▸ ha i (ht.inBounds i ▸ hb)

section
variable {m : Fin 8} {o : Operands} {s t : State}

/-- Past the mode's endpoints the raw and the dequantized endpoints and the p-bits keep their values. -/
theorem State.Holds.endpoint_kept (h : s.Holds m o t) {e : Fin 6} (he : (Rom.mode m).ne ≤ e.val) :
    t.epRaw[e] = s.epRaw[e] ∧ t.ep[e] = s.ep[e] ∧ t.pbit[e] = s.pbit[e] :=
  ⟨(h.epRaw e).trans (if_neg (Nat.not_lt.mpr he)), h.ep_kept e he, (h.pbit e).trans (if_neg (Nat.not_lt.mpr he))⟩

/-- A mode with no alpha field writes no raw alpha. -/
theorem State.Holds.rawAlpha_kept (h : s.Holds m o t) (ha : (Rom.mode m).ab = 0) (e : Fin 6) :
    (t.epRaw[e]).a = (s.epRaw[e]).a := by
  rw [h.epRaw, Operands.rawEndpoint, ha]
  split <;> rfl

/-- A mode with no shared p-bits leaves their registers. -/
theorem State.Holds.sp_kept (h : s.Holds m o t) (hs : (Rom.mode m).spb = false) : t.sp = s.sp :=
  Vector.ext fun k hk => (h.sp ⟨k, hk⟩).trans (if_neg fun hc => by simp [hs] at hc)

/-- A mode with no p-bits leaves their registers. -/
theorem State.Holds.pbit_kept (h : s.Holds m o t) (he : (Rom.mode m).epb = false) (hs : (Rom.mode m).spb = false) :
    t.pbit = s.pbit :=
  Vector.ext fun e h6 => (h.pbit ⟨e, h6⟩).trans (by simp [Operands.pbitOf, he, hs])

end

/-- Settles O37: the registers that each mode has no operand for, and the endpoints past its own. -/
theorem colourModesFrame : Obligations.ColourModesFrame := by
  refine ⟨fun p c pb ix s t h => ?_, fun p c sp ix s t h => ?_, fun p c ix s t h => ?_, fun p c pb ix s t h => ?_⟩
  all_goals
    have hk := exec_holds rfl h
    refine ⟨exec_portsKept h, hk.freeCount, hk.idx2_kept rfl, ?_⟩
  · exact ⟨hk.sp_kept rfl, hk.rawAlpha_kept rfl⟩
  · exact ⟨hk.sp 2, hk.rawAlpha_kept rfl, fun e he => hk.endpoint_kept he⟩
  · exact ⟨hk.sp_kept rfl, hk.pbit_kept rfl rfl, hk.rawAlpha_kept rfl⟩
  · exact ⟨hk.sp_kept rfl, hk.rawAlpha_kept rfl, fun e he => hk.endpoint_kept he⟩

/-- Settles O38: likewise, for the modes that have an alpha field. -/
theorem alphaModesFrame : Obligations.AlphaModesFrame := by
  refine ⟨fun r sel c a ix jx s t h => ?_, fun r c a ix jx s t h => ?_, fun c a pb ix s t h => ?_,
    fun p c a pb ix s t h => ?_⟩
  all_goals
    have hk := exec_holds rfl h
    refine ⟨exec_portsKept h, hk.freeCount, hk.sp_kept rfl, ?_⟩
  case refine_1 | refine_2 =>
    refine ⟨hk.pbit_kept rfl rfl, fun e he => ?_⟩
    obtain ⟨hraw, hep, -⟩ := hk.endpoint_kept he
    exact ⟨hraw, hep⟩
  all_goals exact ⟨hk.idx2_kept rfl, fun e he => hk.endpoint_kept he⟩

/-- Settles O39: the fill writes mode, pixels, `desc` and the count of free values alone. -/
theorem reservedFrame : Obligations.ReservedFrame := by
  intro u s t h
  refine ⟨exec_portsKept h, ?_⟩
  rw [execReserved_next h]
  simp

/-! ## The clipped footprint (R92, R264) -/

theorem State.writePixels_of_no_inBounds {s : State} (h : ∀ i, s.inBounds i = false) (order : List (Fin 16))
    (m : Memory) : s.writePixels order m = m := by
  unfold State.writePixels
  induction order with
  | nil => rfl
  | cons i order ih => rw [List.foldl_cons, State.writePixel_of_not_inBounds (h i), ih]

/-- A block wholly outside its image, or an image with no pixels, has no pixel in bounds. -/
theorem State.inBounds_eq_false_of_outside {s : State} (h : s.imageWidth ≤ s.blockX * 4 ∨ s.imageHeight ≤ s.blockY * 4 ∨
    s.imageWidth = 0 ∨ s.imageHeight = 0) (i : Fin 16) : s.inBounds i = false := by
  refine Bool.eq_false_iff.mpr fun hb => ?_
  obtain ⟨hx, hy⟩ := (s.inBounds_iff i).mp hb
  omega

/-- Settles O41: a decode's writes are those of its pixels, each of which lies in the image. -/
theorem onlyTheClippedFootprintIsWritten : Obligations.OnlyTheClippedFootprintIsWritten := by
  intro i s t h
  obtain ⟨-, ht, -, hdest⟩ := exec_next h
  refine ⟨fun a ha => ?_, fun a ha => ?_, fun hout => ?_⟩
  · by_contra hin
    rw [Bool.not_eq_true, ← ht.inFootprint] at hin
    exact ha (by rw [hdest, t.read_writePixels_outside _ hin])
  · obtain ⟨j, hb, k, hk, rfl⟩ := (s.inFootprint_iff a).mp ha
    have := s.pixelOffset_bound hb
    omega
  · rw [hdest]
    exact State.writePixels_of_no_inBounds
      (fun j => (ht.inBounds j).trans (State.inBounds_eq_false_of_outside hout j)) _ _

/-! ## What the output depends on (R265, R267) -/

theorem exec_completion {i : Instr} {s t : State} (h : exec i s = .next t) : t.completion = true := by
  obtain ⟨u, hu, -, -⟩ := exec_writesTarget i s
  obtain ⟨-, rfl⟩ := State.writeOutput_next (hu ▸ h)
  rfl

/-- A step from Idle that completes on a request had 16 bytes to decode (P1). -/
theorem blockBytes_of_step_next {s t : State} {r : Request} {rest : List Request} (hi : s.seq = .idle)
    (hr : s.resetIn = false) (hq : s.requests = r :: rest) (h : step s = .next t) : r.blockBytes.length = 16 := by
  by_contra hb
  simp [step, State.transaction, hi, hr, hq, fetch_eq, hb] at h

/-- Two decodes of one instruction to one region write the same. -/
theorem exec_dest_congr {i : Instr} {s s' t t' : State} (h : exec i s = .next t) (h' : exec i s' = .next t')
    (hr : s'.region = s.region) (hd : s'.dest = s.dest) : t'.dest = t.dest := by
  obtain ⟨-, ht, -, hdest⟩ := exec_next h
  obtain ⟨-, ht', -, hdest'⟩ := exec_next h'
  rw [hdest, hdest', hd, State.writePixels_congr (ht'.region.trans (hr.trans ht.region.symm)) (exec_px_congr h h')]

/-- Settles O46: both steps run the instruction of the request's block on states that agree on its target. -/
theorem outputIsAFunctionOfTheRequest : Obligations.OutputIsAFunctionOfTheRequest := by
  refine ⟨fun i s s' t t' h h' => (exec_px_congr h h').symm, ?_⟩
  intro s s' t r rest rest' hi hi' hr hr' hq hq' hdest hlen hfly h
  have hb := blockBytes_of_step_next hi hr hq h
  rw [step_of_request hi hr hq hb] at h
  rw [step_of_request hi' hr' hq' hb]
  obtain ⟨hd, -, hidle, -⟩ := exec_next h
  have hd' : (s'.accept r rest').dutiesMet = true :=
    (State.dutiesMet_congr (s := s.accept r rest) (t := s'.accept r rest') rfl rfl rfl rfl hlen hfly).trans hd
  obtain ⟨t', h'⟩ := exec_completes _ hd'
  obtain ⟨-, -, hidle', -⟩ := exec_next h'
  exact ⟨t', h', exec_dest_congr h h' rfl hdest, exec_px_congr h h', hidle'.trans hidle.symm,
    (exec_completion h').trans (exec_completion h).symm⟩

theorem weight_zero (b : IndexWidth) : Rom.weight b 0 = 0 := by cases b <;> rfl

/-- Where the indices of the mode's sets are 0, so are both weights (R56, R57). -/
theorem weightsOf_zero {d : ModeDesc} {sel : BitVec 1} {v : BitVec 4} {w : BitVec 3} (hv : v = 0)
    (hw : d.ib2.isSome = true → w = 0) : weightsOf d sel v w = (0, 0) := by
  subst hv
  cases h : d.ib2 with
  | none => simp [weightsOf, h, weight_zero]
  | some b =>
    obtain rfl := hw (by simp [h])
    simp [weightsOf, h, weight_zero]

/-- Settles O48: weight 0 is the low endpoint. -/
theorem indexZeroShowsTheLowEndpoint : Obligations.IndexZeroShowsTheLowEndpoint := by
  intro i m s t k hm h h1 h2
  have hk := exec_holds hm h
  obtain ⟨-, hdesc, -⟩ := hk.left
  have hlow : t.blendedPixel k = t.loEndpoint k := by
    simp only [State.blendedPixel, weightsOf_zero h1 (hdesc ▸ h2), blend, interp_zero]
  rw [hk.px, hlow]
  rfl

end Sys2Proof.Machine
end

section
/-! PROOFS. The sequencer's transitions (R250): their order, what each leaves waiting (R251, R308), and the step that
runs a whole decode (R8). -/

namespace Sys2Proof.Machine

/-! ## A step from Idle (R8, R251) -/

/-- Settles O10: the request's bytes are fetched as the instruction they decode to. -/
theorem stepRunsTheDecodedInstruction : Obligations.StepRunsTheDecodedInstruction := by
  intro s r rest i hi hr hq hd
  have hf : fetch r = .ok i := by simp only [fetch, hd]
  exact ⟨by simp [step, State.transaction, hi, hr, hq, hf], rfl, rfl, rfl, rfl, rfl, rfl, rfl, rfl, rfl⟩

/-- Settles O20: with nothing presented the transaction only takes the signal down. -/
theorem idleUnitWaits : Obligations.IdleUnitWaits := by
  intro s hi hr hq
  simp [step, State.transaction, hi, hr, hq, State.clearCompletion]

/-! ## The order of the states (R250) -/

/-- From Idle a transition waits where nothing is presented, and else accepts the oldest request. -/
theorem State.tick_of_idle_cases {s t : State} (hq : s.seq = .idle) (h : s.tick = .next t) :
    (s.requests = [] ∧ t = s.clearCompletion) ∨ ∃ r rest, s.requests = r :: rest ∧ t = s.accept r rest := by
  simp only [State.tick, hq] at h
  cases hr : s.requests with
  | nil =>
    simp only [hr] at h
    cases h
    exact .inl ⟨rfl, rfl⟩
  | cons r rest =>
    simp only [hr] at h
    split at h
    · cases h
    · cases h
      exact .inr ⟨r, rest, rfl, rfl⟩

/-- Settles O12: `Seq.following` between `DetectMode` and `WriteOutput`, and the two outcomes of `detect`. -/
theorem sequencerTransitions : Obligations.SequencerTransitions := by
  intro s t h
  have hnext : ∀ q, s.seq = q → q ≠ .idle → q ≠ .detectMode → q ≠ .writeOutput → t.seq = q.following := by
    rintro _ rfl hi hd hw
    exact (State.tick_advances hi hd hw h).seq
  refine ⟨fun hq => ?_, fun hq => ?_, fun hq => hnext _ hq nofun nofun nofun, fun hq => hnext _ hq nofun nofun nofun,
    fun hq => hnext _ hq nofun nofun nofun, fun hq => hnext _ hq nofun nofun nofun,
    fun hq => hnext _ hq nofun nofun nofun, fun hq => hnext _ hq nofun nofun nofun,
    fun hq => hnext _ hq nofun nofun nofun, fun hq => ?_⟩
  · obtain ⟨hr, rfl⟩ | ⟨r, rest, hr, rfl⟩ := State.tick_of_idle_cases hq h
    · exact .inl ⟨hr, hq⟩
    · exact .inr ⟨by simp [hr], rfl⟩
  · rw [State.tick_of_detectMode hq h]
    cases hm : detect s.blk with
    | reserved =>
      rw [State.detectState_reserved hm]
      exact .inl ⟨rfl, rfl, fun i => by simp [opaqueBlack]⟩
    | valid m =>
      rw [State.detectState_valid hm]
      exact .inr ⟨nofun, rfl⟩
  · rw [(State.tick_of_writeOutput hq h).2]
    exact ⟨rfl, rfl⟩

/-! ## What is presented meanwhile waits (R251, R308) -/

/-- A transition inside a decode keeps the latched block, and before `WriteOutput` the completion signal. -/
theorem State.tick_blk_completion {s t : State} (hi : s.seq ≠ .idle) (h : s.tick = .next t) :
    t.blk = s.blk ∧ (s.seq ≠ .writeOutput → t.completion = s.completion) := by
  unfold State.tick at h
  cases hq : s.seq <;> simp only [hq] at h
  case idle => exact absurd hq hi
  case detectMode =>
    cases h
    unfold State.detectState
    split <;> exact ⟨rfl, fun _ => rfl⟩
  case readPartitionRotationSelector =>
    obtain ⟨vs, -, -, rfl⟩ := State.takeThen_next h
    exact ⟨rfl, fun _ => rfl⟩
  case readEndpointChannels | readPBits | readIndices =>
    obtain ⟨vs, -, -, rfl⟩ := State.takeThen_next h
    dsimp only
    split_ifs <;> simp
  case dequantize | interpolatePixels | applyRotation => cases h; exact ⟨rfl, fun _ => rfl⟩
  case writeOutput =>
    obtain ⟨-, rfl⟩ := State.writeOutput_next h
    exact ⟨rfl, fun hw => absurd rfl hw⟩

/-- The unit s with other requests presented. -/
def State.withRequests (q : List Request) (s : State) : State := { s with requests := q }

section
variable {s t : State} {q : List Request}

theorem State.withRequests_seq : (s.withRequests q).seq = s.seq := rfl
theorem State.withRequests_desc : (s.withRequests q).desc = s.desc := rfl

theorem State.detectState_withRequests : (s.withRequests q).detectState = s.detectState.withRequests q := by
  cases hm : detect s.blk with
  | reserved =>
    rw [State.detectState_reserved hm, State.detectState_reserved (s := s.withRequests q) hm]
    rfl
  | valid m =>
    rw [State.detectState_valid hm, State.detectState_valid (s := s.withRequests q) hm]
    rfl

theorem State.written_withRequests : (s.withRequests q).written = s.written.withRequests q := by
  rw [State.written, State.writePixels_congr (s := s) (t := s.withRequests q) rfl rfl]
  rfl

theorem State.takeThen_withRequests {ws : List Nat} {g : List Nat → State → State}
    (hg : ∀ vs u, g vs (u.withRequests q) = (g vs u).withRequests q) (h : s.takeThen ws g = .next t) :
    (s.withRequests q).takeThen ws g = .next (t.withRequests q) := by
  obtain ⟨vs, hvs, -, rfl⟩ := State.takeThen_next h
  have hvs' : takes (s.withRequests q).blk (s.withRequests q).bitPos ws = _ := hvs
  simp only [State.takeThen, hvs', ← hg]
  rfl

/-- A transition inside a decode does not look at the request port. -/
theorem State.tick_withRequests (hi : s.seq ≠ .idle) (h : s.tick = .next t) :
    (s.withRequests q).tick = .next (t.withRequests q) := by
  unfold State.tick at h ⊢
  rw [State.withRequests_seq]
  cases hq : s.seq <;> simp only [hq] at h ⊢
  case idle => exact absurd hq hi
  case detectMode =>
    cases h
    rw [State.detectState_withRequests]
  case readPartitionRotationSelector => exact State.takeThen_withRequests (fun _ _ => rfl) h
  case readEndpointChannels =>
    refine State.takeThen_withRequests (fun vs u => ?_) h
    by_cases ha : 0 < u.desc.ab <;>
      simp only [State.withRequests_desc, State.putColour_desc, ha, if_true, if_false] <;> rfl
  case readPBits =>
    refine State.takeThen_withRequests (fun vs u => ?_) h
    by_cases he : u.desc.epb <;> by_cases hs : u.desc.spb <;>
      simp only [State.withRequests_desc, he, hs, if_true] <;> rfl
  case readIndices =>
    refine State.takeThen_withRequests (fun vs u => ?_) h
    by_cases h2 : u.desc.ib2.isSome <;>
      simp only [State.withRequests_desc, State.putIdx1_desc, h2, if_true] <;> rfl
  case dequantize | interpolatePixels | applyRotation => cases h; rfl
  case writeOutput =>
    obtain ⟨hd, rfl⟩ := State.writeOutput_next h
    rw [← State.written_withRequests]
    exact State.writeOutput_eq_next ((State.dutiesMet_congr rfl rfl rfl rfl rfl rfl).trans hd)

end

/-- Settles O19: the target, the latched block and the signal are kept, and the port is not looked at. -/
theorem busyUnitLeavesRequestsWaiting : Obligations.BusyUnitLeavesRequestsWaiting := by
  refine ⟨fun s t hi h => ?_, fun s t q hi h => State.tick_withRequests hi h⟩
  have ht := State.tick_sameTarget hi h
  obtain ⟨hblk, hcompletion⟩ := State.tick_blk_completion hi h
  exact ⟨ht.requests, hblk, ht.blockX, ht.blockY, ht.imageWidth, ht.imageHeight, ht.destLen, ht.inFlight, hcompletion⟩

end Sys2Proof.Machine
end

section
/-! PROOFS. The sequencer against the one-step transaction (R8, R250, R310): the fields of a well-formed block are what
the sequencer's states take from it, so each state loads the operands that `exec` loads. -/

namespace Sys2Proof

open Machine

/-! ## Taking the fields of a block (R103, R141) -/

/-- A run of takes at `pos` over the fields' widths answers the fields' values, and the cursor `last`. -/
def Reads (blk : Block) (pos : Nat) (segs : List (Nat × Nat)) (last : Nat) : Prop :=
  takes blk pos (segs.map Prod.fst) = some (segs.map Prod.snd, last)

theorem reads_nil {blk : Block} {pos last : Nat} : Reads blk pos [] last ↔ pos = last := by
  simp [Reads, takes]

theorem reads_cons {blk : Block} {pos w v last : Nat} {segs : List (Nat × Nat)} :
    Reads blk pos ((w, v) :: segs) last ↔ readBits blk pos w = some v ∧ Reads blk (pos + w) segs last := by
  simp only [Reads, List.map_cons, takes_cons_eq_some, List.cons.injEq]
  constructor
  · rintro ⟨_, _, hv, hrest, rfl, rfl⟩
    exact ⟨hv, hrest⟩
  · rintro ⟨hv, hrest⟩
    exact ⟨_, _, hv, hrest, rfl, rfl⟩

theorem reads_append {blk : Block} {pos last : Nat} {a b : List (Nat × Nat)} :
    Reads blk pos (a ++ b) last ↔ ∃ mid, Reads blk pos a mid ∧ Reads blk mid b last := by
  induction a generalizing pos with
  | nil => simp [reads_nil]
  | cons seg a ih =>
    obtain ⟨w, v⟩ := seg
    simp only [List.cons_append, reads_cons, ih, and_assoc, exists_and_left]

/-- Fields that `readBits` can read, each of a value that fits it. -/
def Fits (segs : List (Nat × Nat)) : Prop := ∀ seg ∈ segs, seg.1 ≤ 32 ∧ seg.2 < 2 ^ seg.1

/-- Fields that a block carries are read from it. -/
theorem reads_of_carries {blk : Block} {pos : Nat} {segs : List (Nat × Nat)} (hfit : Fits segs)
    (hc : Carries blk pos segs) (hend : pos + widthsSum segs ≤ 128) : Reads blk pos segs (pos + widthsSum segs) := by
  induction segs generalizing pos with
  | nil => exact reads_nil.mpr rfl
  | cons seg segs ih =>
    obtain ⟨w, v⟩ := seg
    obtain ⟨⟨hw, hv⟩, hrest⟩ := List.forall_mem_cons.mp hfit
    obtain ⟨hfield, hcarries⟩ := hc
    have hsum : pos + widthsSum ((w, v) :: segs) = pos + w + widthsSum segs := by simp [widthsSum, Nat.add_assoc]
    rw [hsum] at hend ⊢
    rw [reads_cons, readBits_eq_some hw (by omega), hfield, Nat.mod_eq_of_lt hv]
    exact ⟨rfl, ih hrest hcarries hend⟩

/-- A field of width 0 reads 0 and moves nothing (R140), so fields a mode does not have can be left out. -/
theorem reads_of_filter {blk : Block} {pos last : Nat} {segs : List (Nat × Nat)} (hpos : pos ≤ 128)
    (hzero : ∀ seg ∈ segs, seg.1 = 0 → seg.2 = 0) (h : Reads blk pos (segs.filter fun seg => 0 < seg.1) last) :
    Reads blk pos segs last := by
  induction segs generalizing pos with
  | nil => exact h
  | cons seg segs ih =>
    obtain ⟨w, v⟩ := seg
    obtain ⟨hv, hrest⟩ := List.forall_mem_cons.mp hzero
    rcases Nat.eq_zero_or_pos w with rfl | hw
    · obtain rfl : v = 0 := hv rfl
      rw [List.filter_cons_of_neg (by simp)] at h
      rw [reads_cons, readBits_eq_some (Nat.zero_le 32) hpos, toNat_field, pow_zero, Nat.mod_one]
      exact ⟨rfl, ih hpos hrest h⟩
    · rw [List.filter_cons_of_pos (by simpa using hw), reads_cons] at h
      obtain ⟨hread, htail⟩ := h
      have hmid : pos + w ≤ 128 := by
        by_contra hc
        rw [readBits_eq_none (.inr (Nat.not_le.mp hc))] at hread
        cases hread
      exact reads_cons.mpr ⟨hread, ih hmid hrest htail⟩

/-! ## The fields of an instruction fit -/

theorem fits_append {a b : List (Nat × Nat)} : Fits (a ++ b) ↔ Fits a ∧ Fits b := List.forall_mem_append

theorem fits_prefixSeg (m : Fin 8) : Fits (prefixSeg m) := by
  simp only [Fits, prefixSeg, List.forall_mem_singleton]
  exact ⟨by omega, Nat.pow_lt_pow_succ Nat.one_lt_two⟩

theorem fits_fieldSeg {w : Nat} (hw : w ≤ 32) (v : BitVec w) : Fits (fieldSeg v) := by
  simpa only [Fits, fieldSeg, List.forall_mem_singleton] using ⟨hw, v.isLt⟩

theorem fits_entries {w k : Nat} (hw : w ≤ 32) (f : Fin k → BitVec w) :
    Fits ((List.finRange k).map fun e => (w, (f e).toNat)) := by
  rintro _ hseg
  obtain ⟨e, -, rfl⟩ := List.mem_map.mp hseg
  exact ⟨hw, (f e).isLt⟩

theorem fits_vectorSegs {w k : Nat} (hw : w ≤ 32) (vs : Vector (BitVec w) k) : Fits (vectorSegs vs) :=
  fits_entries hw _

theorem fits_colourSegs {w k : Nat} (hw : w ≤ 32) (cs : Vector (Colour w) k) : Fits (colourSegs cs) :=
  fits_append.mpr ⟨fits_append.mpr ⟨fits_entries hw _, fits_entries hw _⟩, fits_entries hw _⟩

theorem fits_idxSegs {w : Nat} (hw : w ≤ 32) {anchor : Fin 16 → Bool} {ix : Vector (BitVec w) 16}
    (h : anchorsLow anchor ix = true) : Fits (idxSegs anchor ix) := by
  rintro _ hseg
  obtain ⟨i, -, rfl⟩ := List.mem_map.mp hseg
  exact ⟨(idxWidth_le anchor w i).trans hw, (anchorsLow_iff anchor ix).mp h i⟩

/-- The fields of a well-formed instruction of a valid mode fit. -/
theorem fits_segments {i : Instr} {m : Fin 8} (hm : i.mode = .valid m) (hwf : i.wellFormed = true) :
    Fits i.segments := by
  cases i <;> cases hm
  all_goals
    simp only [Instr.wellFormed, Bool.and_eq_true] at hwf
    simp only [Instr.segments, fits_append, fits_prefixSeg, fits_fieldSeg, fits_vectorSegs, fits_colourSegs,
      fits_idxSegs, Nat.reduceLeDiff, hwf, and_self]

end Sys2Proof

namespace Sys2Proof.Machine

/-! ## The fields of the operands, by the states that take them (R250) -/

section
variable (o : Operands) (d : ModeDesc)

/-- The header's fields, of width 0 where the mode has none. -/
def Operands.headerFields : List (Nat × Nat) :=
  [(d.pb, o.partition.toNat), (d.rb, o.rotation.toNat), (d.isb, o.idxSel.toNat)]

/-- One field an entry of a list of k. -/
def entryFields {v : Nat} (k w : Nat) (f : Nat → BitVec v) : List (Nat × Nat) :=
  (List.finRange k).map fun e => (w, (f e.val).toNat)

/-- The endpoint channels: R of every endpoint, then G, then B, then A where the mode has it. -/
def Operands.endpointFields : List (Nat × Nat) :=
  entryFields d.ne d.cb (fun e => (o.colour e).r) ++ (entryFields d.ne d.cb (fun e => (o.colour e).g) ++
    (entryFields d.ne d.cb (fun e => (o.colour e).b) ++ if 0 < d.ab then entryFields d.ne d.ab o.alpha else []))

/-- The p-bits of the mode's kind. -/
def Operands.pbitFields : List (Nat × Nat) :=
  if d.epb then entryFields d.ne 1 o.pbits else if d.spb then entryFields d.ns.count 1 o.pbits else []

/-- The primary indices, one bit less at each anchor. -/
def Operands.idx1Fields : List (Nat × Nat) :=
  (List.finRange 16).map fun i => (idxWidth (Rom.isAnchor d.ns o.partition) d.ib.bits i, (o.idx1 i).toNat)

/-- The secondary indices, where the mode has them: one bit less at pixel 0. -/
def Operands.idx2Fields : List (Nat × Nat) :=
  match d.ib2 with
  | none => []
  | some b => (List.finRange 16).map fun i => (idxWidth Rom.isAnchor2nd b.bits i, (o.idx2 i).toNat)

end

/-- The fields of an instruction are its mode bits and its operands' fields, those of width 0 left out (R103). -/
theorem segments_eq {i : Instr} {m : Fin 8} (hm : i.mode = .valid m) :
    i.segments = prefixSeg m ++ (((operandsOf i).headerFields (Rom.mode m)).filter (fun seg => 0 < seg.1) ++
      ((operandsOf i).endpointFields (Rom.mode m) ++ ((operandsOf i).pbitFields (Rom.mode m) ++
        ((operandsOf i).idx1Fields (Rom.mode m) ++ (operandsOf i).idx2Fields (Rom.mode m))))) := by
  cases i <;> cases hm
  all_goals
    -- zero-extension to the registers keeps every value
    simp only [Instr.segments, fieldSeg, colourSegs, vectorSegs, idxSegs, Operands.headerFields,
      Operands.endpointFields, Operands.pbitFields, Operands.idx1Fields, Operands.idx2Fields, entryFields, operandsOf,
      widen, nth_val, BitVec.toNat_setWidth_of_le, Rom.mode, ModeDesc.ne, Subsets.count, IndexWidth.bits,
      Nat.reduceMul, Nat.reduceLeDiff]
    simp

/-- A header register of a mode without its field is 0. -/
theorem headerFields_zero {i : Instr} {m : Fin 8} (hm : i.mode = .valid m) :
    ∀ seg ∈ (operandsOf i).headerFields (Rom.mode m), seg.1 = 0 → seg.2 = 0 := by
  cases i <;> cases hm <;> simp [Operands.headerFields, operandsOf, Rom.mode]

/-- A well-formed instruction's block is read, past its mode bits, as the operands' fields state by state, to its end
(R104). -/
theorem reads_operands {i : Instr} {m : Fin 8} (hm : i.mode = .valid m) (hwf : i.wellFormed = true) :
    ∃ base pbase ibase ibase2,
      Reads (encodeBlock i) (m.val + 1) ((operandsOf i).headerFields (Rom.mode m)) base ∧
      Reads (encodeBlock i) base ((operandsOf i).endpointFields (Rom.mode m)) pbase ∧
      Reads (encodeBlock i) pbase ((operandsOf i).pbitFields (Rom.mode m)) ibase ∧
      Reads (encodeBlock i) ibase ((operandsOf i).idx1Fields (Rom.mode m)) ibase2 ∧
      Reads (encodeBlock i) ibase2 ((operandsOf i).idx2Fields (Rom.mode m)) 128 := by
  have hread := reads_of_carries (fits_segments hm hwf) ((carries_segments_iff _ i).mpr rfl)
    (by rw [widthsSum_segments])
  rw [widthsSum_segments, segments_eq hm] at hread
  simp only [reads_append] at hread
  obtain ⟨start, hprefix, base, hheader, pbase, hep, ibase, hpb, ibase2, h1, h2⟩ := hread
  obtain rfl : m.val + 1 = start := by
    simp only [prefixSeg, reads_cons, reads_nil] at hprefix
    omega
  exact ⟨base, pbase, ibase, ibase2, reads_of_filter (by omega) (headerFields_zero hm) hheader, hep, hpb, h1, h2⟩

/-! ## One transition a state (R250) -/

/-- The unit s in state q of the sequencer, the cursor at `pos`. -/
def State.inPhase (q : Seq) (pos : Nat) (s : State) : State := { s with seq := q, bitPos := pos }

/-- The unit s gone on to state q. -/
def State.goTo (q : Seq) (s : State) : State := { s with seq := q }

theorem State.inPhase_desc (q : Seq) (pos : Nat) (s : State) : (s.inPhase q pos).desc = s.desc := rfl

theorem State.inPhase_idx1Widths (q : Seq) (pos : Nat) (s : State) : (s.inPhase q pos).idx1Widths = s.idx1Widths := rfl

theorem State.inPhase_goTo (q q' : Seq) (pos : Nat) (s : State) : (s.inPhase q pos).goTo q' = s.inPhase q' pos := rfl

/-- A state that takes the fields its block holds goes on with their values. -/
theorem State.takeThen_of_reads {s : State} {q : Seq} {pos last : Nat} {segs : List (Nat × Nat)} {ws : List Nat}
    (h : Reads s.blk pos segs last) (hws : ws = segs.map Prod.fst) (g : List Nat → State → State) :
    (s.inPhase q pos).takeThen ws g = .next (g (segs.map Prod.snd) (s.inPhase q last)) := by
  subst hws
  have h' : takes (s.inPhase q pos).blk (s.inPhase q pos).bitPos _ = _ := h
  simp only [State.takeThen, h']
  rfl

theorem ofNat_toNat_self {w : Nat} (x : BitVec w) : BitVec.ofNat w x.toNat = x := by
  rw [BitVec.ofNat_toNat, BitVec.setWidth_eq]

theorem State.tick_header {s : State} {o : Operands} {pos last : Nat}
    (h : Reads s.blk pos (o.headerFields s.desc) last) :
    (s.inPhase .readPartitionRotationSelector pos).tick =
      .next ((s.putHeader o.partition o.rotation o.idxSel).inPhase .readEndpointChannels last) := by
  have hput : s.putHeader (BitVec.ofNat 6 o.partition.toNat) (BitVec.ofNat 2 o.rotation.toNat)
      (BitVec.ofNat 1 o.idxSel.toNat) = s.putHeader o.partition o.rotation o.idxSel := by
    simp only [ofNat_toNat_self]
  show (s.inPhase .readPartitionRotationSelector pos).headerState = _
  rw [← hput]
  exact State.takeThen_of_reads h rfl _

theorem entryFields_fst {v : Nat} (k w : Nat) (f : Nat → BitVec v) :
    (entryFields k w f).map Prod.fst = List.replicate k w := by
  simp [entryFields, Function.comp_def]

theorem endpointFields_fst (o : Operands) (d : ModeDesc) : (o.endpointFields d).map Prod.fst = endpointWidths d := by
  have h3 : List.replicate (3 * d.ne) d.cb =
      List.replicate d.ne d.cb ++ (List.replicate d.ne d.cb ++ List.replicate d.ne d.cb) := by
    simp only [List.replicate_append_replicate]
    congr 1
    omega
  rw [Operands.endpointFields, endpointWidths, h3]
  split <;> simp only [List.map_append, entryFields_fst, List.append_assoc, List.map_nil]

/-- The first k values taken are the entries, and the rest come after them. -/
theorem getD_entryFields_snd {v : Nat} {k w : Nat} {f : Nat → BitVec v} (rest : List Nat) {e : Nat} (he : e < k) :
    ((entryFields k w f).map Prod.snd ++ rest).getD e 0 = (f e).toNat := by
  have hlt : e < ((entryFields k w f).map Prod.snd).length := by simpa [entryFields] using he
  rw [List.getD_append _ _ _ _ hlt, List.getD_eq_getElem _ _ hlt]
  simp [entryFields]

theorem getD_entryFields_snd_add {v : Nat} {k w : Nat} {f : Nat → BitVec v} (rest : List Nat) (e : Nat) :
    ((entryFields k w f).map Prod.snd ++ rest).getD (k + e) 0 = rest.getD e 0 := by
  rw [List.getD_append_right _ _ _ _ (by simp [entryFields])]
  simp [entryFields]

theorem colourTaken_endpointFields (o : Operands) (d : ModeDesc) {e : Nat} (he : e < d.ne) :
    colourTaken d.ne ((o.endpointFields d).map Prod.snd) e = o.colour e := by
  have h2 : 2 * d.ne + e = d.ne + (d.ne + e) := by omega
  simp only [colourTaken, Operands.endpointFields, List.map_append, h2, getD_entryFields_snd_add,
    getD_entryFields_snd _ he, ofNat_toNat_self]

theorem alpha_endpointFields (o : Operands) {d : ModeDesc} (ha : 0 < d.ab) {e : Nat} (he : e < d.ne) :
    BitVec.ofNat 8 (((o.endpointFields d).map Prod.snd).getD (3 * d.ne + e) 0) = o.alpha e := by
  have h3 : 3 * d.ne + e = d.ne + (d.ne + (d.ne + e)) := by omega
  have hlast : (entryFields d.ne d.ab o.alpha).map Prod.snd =
      (entryFields d.ne d.ab o.alpha).map Prod.snd ++ [] := (List.append_nil _).symm
  rw [Operands.endpointFields, if_pos ha, List.map_append, List.map_append, List.map_append, hlast, h3,
    getD_entryFields_snd_add, getD_entryFields_snd_add, getD_entryFields_snd_add, getD_entryFields_snd _ he,
    ofNat_toNat_self]

/-! ## Endpoints and p-bits (R180, R181) -/

/-- The operands that `ReadEndpointChannels` makes of the values it takes. -/
def Operands.ofEndpoints (d : ModeDesc) (vs : List Nat) : Operands :=
  { colour := colourTaken d.ne vs, alpha := fun e => BitVec.ofNat 8 (vs.getD (3 * d.ne + e) 0) }

/-- The operands that `ReadIndices` makes of the values it takes. -/
def Operands.ofIndices (vs : List Nat) : Operands :=
  { idx1 := fun i => BitVec.ofNat 4 (vs.getD i.val 0), idx2 := fun i => BitVec.ofNat 3 (vs.getD (16 + i.val) 0) }

/-- The operands that `ReadPBits` makes of the values it takes. -/
def Operands.ofPBits (vs : List Nat) : Operands := { pbits := fun e => BitVec.ofNat 1 (vs.getD e 0) }

section
variable {s : State} {o o' : Operands}

theorem State.loadEndpoints_inPhase (q : Seq) (pos : Nat) :
    (s.inPhase q pos).loadEndpoints o = (s.loadEndpoints o).inPhase q pos := by
  rw [State.loadEndpoints_eq, State.loadEndpoints_eq]
  rfl

theorem State.loadPBits_inPhase (q : Seq) (pos : Nat) :
    (s.inPhase q pos).loadPBits o = (s.loadPBits o).inPhase q pos := by
  rw [State.loadPBits_eq, State.loadPBits_eq]
  rfl

theorem State.loadIndices_inPhase (q : Seq) (pos : Nat) :
    (s.inPhase q pos).loadIndices o = (s.loadIndices o).inPhase q pos := by
  rw [State.loadIndices_eq, State.loadIndices_eq]
  rfl

/-- Endpoints past the mode's own are not looked at, nor is alpha in a mode with none. -/
theorem State.loadEndpoints_congr (hc : ∀ e, e < s.desc.ne → o.colour e = o'.colour e)
    (ha : 0 < s.desc.ab → ∀ e, e < s.desc.ne → o.alpha e = o'.alpha e) : s.loadEndpoints o = s.loadEndpoints o' := by
  have hraw : ∀ e prior, o.rawEndpoint s.desc e prior = o'.rawEndpoint s.desc e prior := by
    intro e prior
    unfold Operands.rawEndpoint
    by_cases he : e < s.desc.ne
    · by_cases hab : 0 < s.desc.ab
      · simp only [he, hab, if_true, hc e he, ha hab e he]
      · simp only [he, hab, if_true, if_false, hc e he]
    · simp only [he, if_false]
  simp only [State.loadEndpoints_eq, hraw]

/-- P-bits past the mode's own, of the kind it has, are not looked at. -/
theorem State.loadPBits_congr (he : s.desc.epb = true → ∀ e, e < s.desc.ne → o.pbits e = o'.pbits e)
    (hs : s.desc.epb = false → s.desc.spb = true → ∀ k, k < s.desc.ns.count → o.pbits k = o'.pbits k) :
    s.loadPBits o = s.loadPBits o' := by
  have hpbit : ∀ e prior, o.pbitOf s.desc e prior = o'.pbitOf s.desc e prior := by
    intro e prior
    unfold Operands.pbitOf
    by_cases hlt : e < s.desc.ne
    · cases hepb : s.desc.epb with
      | true => simp only [hlt, if_true, he hepb e hlt]
      | false =>
        cases hspb : s.desc.spb with
        | true =>
          have hhalf : e / 2 < s.desc.ns.count := by
            rw [ModeDesc.ne] at hlt
            omega
          simp only [Bool.false_eq_true, if_false, hs hepb hspb _ hhalf]
        | false => rfl
    · simp only [hlt, if_false]
  have hshared : ∀ k prior, o.sharedPBitOf s.desc k prior = o'.sharedPBitOf s.desc k prior := by
    intro k prior
    unfold Operands.sharedPBitOf
    split
    · rename_i h
      obtain ⟨hepb, hspb, hk⟩ := h
      exact hs hepb hspb k hk
    · rfl
  simp only [State.loadPBits_eq, hpbit, hshared]

/-- A secondary index set is not looked at in a mode with none. -/
theorem State.loadIndices_congr (h1 : o.idx1 = o'.idx1) (h2 : ∀ b, s.desc.ib2 = some b → o.idx2 = o'.idx2) :
    s.loadIndices o = s.loadIndices o' := by
  cases hb : s.desc.ib2 with
  | none => simp only [State.loadIndices_eq, h1, hb, Option.isSome_none, Bool.false_eq_true, if_false]
  | some b => simp only [State.loadIndices_eq, h1, h2 b hb]

theorem State.endpointState_eq (s : State) : s.endpointState =
    s.takeThen (endpointWidths s.desc) fun vs t => (t.loadEndpoints (.ofEndpoints t.desc vs)).goTo .readPBits := rfl

theorem State.pbitState_eq (s : State) : s.pbitState =
    s.takeThen (pbitWidths s.desc) fun vs t => (t.loadPBits (.ofPBits vs)).goTo .dequantize := rfl

theorem State.indexState_eq (s : State) : s.indexState =
    s.takeThen (s.idx1Widths ++ idx2Widths s.desc) fun vs t =>
      (t.loadIndices (.ofIndices vs)).goTo .interpolatePixels := rfl

theorem State.tick_endpoints {pos last : Nat} (h : Reads s.blk pos (o.endpointFields s.desc) last) :
    (s.inPhase .readEndpointChannels pos).tick = .next ((s.loadEndpoints o).inPhase .readPBits last) := by
  have hload : s.loadEndpoints (.ofEndpoints s.desc ((o.endpointFields s.desc).map Prod.snd)) = s.loadEndpoints o :=
    State.loadEndpoints_congr (fun e he => colourTaken_endpointFields o s.desc he)
      fun hab e he => alpha_endpointFields o hab he
  show (s.inPhase .readEndpointChannels pos).endpointState = _
  rw [State.endpointState_eq, State.inPhase_desc, State.takeThen_of_reads h (endpointFields_fst o s.desc).symm,
    State.loadEndpoints_inPhase, State.inPhase_goTo, State.inPhase_desc, hload]

theorem pbitFields_fst (o : Operands) (d : ModeDesc) : (o.pbitFields d).map Prod.fst = pbitWidths d := by
  unfold Operands.pbitFields pbitWidths
  split_ifs <;> simp only [entryFields_fst, List.map_nil]

theorem getD_entryFields {k w : Nat} {f : Nat → BitVec w} {e : Nat} (he : e < k) :
    BitVec.ofNat w (((entryFields k w f).map Prod.snd).getD e 0) = f e := by
  have h := getD_entryFields_snd (w := w) (f := f) [] he
  rw [List.append_nil] at h
  rw [h, ofNat_toNat_self]

theorem State.tick_pbits {pos last : Nat} (h : Reads s.blk pos (o.pbitFields s.desc) last) :
    (s.inPhase .readPBits pos).tick = .next ((s.loadPBits o).inPhase .dequantize last) := by
  have hload : s.loadPBits (.ofPBits ((o.pbitFields s.desc).map Prod.snd)) = s.loadPBits o := by
    refine State.loadPBits_congr (fun hepb e he => ?_) fun hepb hspb k hk => ?_
    · simp only [Operands.ofPBits, Operands.pbitFields, hepb, if_true, getD_entryFields he]
    · simp only [Operands.ofPBits, Operands.pbitFields, hepb, hspb, if_true, Bool.false_eq_true, if_false,
        getD_entryFields hk]
  show (s.inPhase .readPBits pos).pbitState = _
  rw [State.pbitState_eq, State.inPhase_desc, State.takeThen_of_reads h (pbitFields_fst o s.desc).symm,
    State.loadPBits_inPhase, State.inPhase_goTo, hload]

/-! ## Indices (R200, R202) -/

theorem getD_map_finRange_snd {k : Nat} (f : Fin k → Nat × Nat) (rest : List Nat) (i : Fin k) :
    (((List.finRange k).map f).map Prod.snd ++ rest).getD i 0 = (f i).2 := by
  rw [List.getD_append _ _ _ _ (by simp), List.getD_eq_getElem _ _ (by simp)]
  simp

theorem idx1Fields_fst {s : State} {o : Operands}
    (hanchor : ∀ i : Fin 16, s.anchor[i] = Rom.isAnchor s.desc.ns o.partition i) :
    (o.idx1Fields s.desc).map Prod.fst = s.idx1Widths := by
  rw [State.idx1Widths_eq, Operands.idx1Fields, List.map_map]
  simp only [hanchor]
  rfl

theorem idx2Fields_fst (o : Operands) (d : ModeDesc) : (o.idx2Fields d).map Prod.fst = idx2Widths d := by
  unfold Operands.idx2Fields
  cases hb : d.ib2 with
  | none => simp [idx2Widths, hb]
  | some b =>
    rw [idx2Widths_of_some hb, List.map_map]
    rfl

theorem State.tick_indices {pos mid last : Nat}
    (hanchor : ∀ i : Fin 16, s.anchor[i] = Rom.isAnchor s.desc.ns o.partition i)
    (h1 : Reads s.blk pos (o.idx1Fields s.desc) mid) (h2 : Reads s.blk mid (o.idx2Fields s.desc) last) :
    (s.inPhase .readIndices pos).tick = .next ((s.loadIndices o).inPhase .interpolatePixels last) := by
  have hload : s.loadIndices (.ofIndices ((o.idx1Fields s.desc ++ o.idx2Fields s.desc).map Prod.snd)) =
      s.loadIndices o := by
    refine State.loadIndices_congr (funext fun i => ?_) fun b hb => funext fun i => ?_
    · simp only [Operands.ofIndices, List.map_append, Operands.idx1Fields, getD_map_finRange_snd, ofNat_toNat_self]
    · have hsnd : (o.idx2Fields s.desc).map Prod.snd = (o.idx2Fields s.desc).map Prod.snd ++ [] := by simp
      have hlen : ((o.idx1Fields s.desc).map Prod.snd).length = 16 := by simp [Operands.idx1Fields]
      simp only [Operands.ofIndices, List.map_append]
      rw [List.getD_append_right _ _ _ _ (by omega), hlen, Nat.add_sub_cancel_left,
        hsnd, Operands.idx2Fields, hb, getD_map_finRange_snd, ofNat_toNat_self]
  have hwidths : s.idx1Widths ++ idx2Widths s.desc = (o.idx1Fields s.desc ++ o.idx2Fields s.desc).map Prod.fst := by
    rw [List.map_append, idx1Fields_fst hanchor, idx2Fields_fst]
  show (s.inPhase .readIndices pos).indexState = _
  rw [State.indexState_eq, State.inPhase_desc, State.inPhase_idx1Widths,
    State.takeThen_of_reads (reads_append.mpr ⟨mid, h1, h2⟩) hwidths, State.loadIndices_inPhase, State.inPhase_goTo,
    hload]

end

end Sys2Proof.Machine
end

section
/-! PROOFS. A whole decode, transition by transition, against the transaction (R8, R250, R310, R311). -/

namespace Sys2Proof.Machine

/-! ## What the loads keep -/

section
variable (o : Operands) (s : State)

@[simp] theorem State.loadEndpoints_blk : (s.loadEndpoints o).blk = s.blk := by rw [State.loadEndpoints_eq]
@[simp] theorem State.loadEndpoints_desc : (s.loadEndpoints o).desc = s.desc := by rw [State.loadEndpoints_eq]
@[simp] theorem State.loadEndpoints_anchor : (s.loadEndpoints o).anchor = s.anchor := by rw [State.loadEndpoints_eq]
@[simp] theorem State.loadEndpoints_resetIn : (s.loadEndpoints o).resetIn = s.resetIn := by rw [State.loadEndpoints_eq]
@[simp] theorem State.loadPBits_blk : (s.loadPBits o).blk = s.blk := by rw [State.loadPBits_eq]
@[simp] theorem State.loadPBits_desc : (s.loadPBits o).desc = s.desc := by rw [State.loadPBits_eq]
@[simp] theorem State.loadPBits_anchor : (s.loadPBits o).anchor = s.anchor := by rw [State.loadPBits_eq]
@[simp] theorem State.loadPBits_resetIn : (s.loadPBits o).resetIn = s.resetIn := by rw [State.loadPBits_eq]
@[simp] theorem State.loadIndices_resetIn : (s.loadIndices o).resetIn = s.resetIn := by rw [State.loadIndices_eq]

theorem State.load_inPhase (m : Fin 8) (q : Seq) (pos : Nat) :
    (s.inPhase q pos).load m o = (s.load m o).inPhase q pos := by
  rw [State.load_eq, State.load_eq]
  rfl

/-- `WriteOutput` looks at no sequencer state. -/
theorem State.writeOutput_inPhase (q q' : Seq) (pos : Nat) :
    (s.inPhase q pos).writeOutput = (s.inPhase q' pos).writeOutput := rfl

theorem State.finishDecode_inPhase (q q' : Seq) (pos : Nat) : (s.inPhase q pos).finishDecode =
    (s.interpolatePixels.applyRotation.inPhase q' Config.blockBits).writeOutput := rfl

end

/-! ## Runs (R310) -/

theorem coreRun_of_step (M : Host.Core) {s t : M.State} (h : M.step s = .next t) (k : Nat) :
    M.run (k + 1) s = M.run k t := by
  rw [Host.Core.run, h]

theorem coreRun_one (M : Host.Core) (s : M.State) : M.run 1 s = M.step s := by
  rw [Host.Core.run]
  cases M.step s <;> rfl

/-- k steps of the machine. -/
def State.run (k : Nat) (s : State) : Host.Outcome State Fault Refusal := Host.Core.run Sys2Proof.core k s

theorem State.run_of_step {s t : State} (h : step s = .next t) (k : Nat) : s.run (k + 1) = t.run k :=
  coreRun_of_step Sys2Proof.core h k

theorem State.run_one (s : State) : s.run 1 = step s := coreRun_one Sys2Proof.core s

/-- A transition between two states of a decode is one step of a run. -/
theorem State.run_of_tick {s t : State} {q q' : Seq} {pos pos' k : Nat} (hi : q ≠ .idle) (hr : s.resetIn = false)
    (h : (s.inPhase q pos).tick = .next (t.inPhase q' pos')) :
    (s.inPhase q pos).run (k + 1) = (t.inPhase q' pos').run k :=
  State.run_of_step ((step_of_busy (s := s.inPhase q pos) hi hr).trans h) k

theorem State.run_writeOutput {s : State} (hr : s.resetIn = false) (pos : Nat) :
    (s.inPhase .writeOutput pos).run 1 = (s.inPhase .writeOutput pos).writeOutput := by
  rw [State.run_one, step_of_busy (s := s.inPhase .writeOutput pos) nofun hr]
  rfl

/-- The nine transitions of a valid mode load the operands and end as `exec` does. -/
theorem State.run_nine {s : State} {i : Instr} {m : Fin 8} (hm : i.mode = .valid m) (hwf : i.wellFormed = true)
    (hblk : s.blk = encodeBlock i) (hdetect : detect s.blk = .valid m) (hr : s.resetIn = false) :
    (s.inPhase .detectMode 0).run 9 = exec i (s.inPhase .detectMode 0) := by
  obtain ⟨base, pbase, ibase, ibase2, hheader, hep, hpb, h1, h2⟩ := reads_operands hm hwf
  rw [← hblk] at hheader hep hpb h1 h2
  generalize hi : operandsOf i = o at *
  calc (s.inPhase .detectMode 0).run 9
      = ((s.enterMode m).inPhase .readPartitionRotationSelector (m.val + 1)).run 8 :=
        State.run_of_tick nofun hr (congrArg _ (State.detectState_valid (s := s.inPhase .detectMode 0) hdetect))
    _ = (((s.enterMode m).putHeader o.partition o.rotation o.idxSel).inPhase .readEndpointChannels base).run 7 :=
        State.run_of_tick nofun hr (State.tick_header hheader)
    _ = ((((s.enterMode m).putHeader o.partition o.rotation o.idxSel).loadEndpoints o).inPhase
          .readPBits pbase).run 6 :=
        State.run_of_tick nofun hr (State.tick_endpoints hep)
    _ = (((((s.enterMode m).putHeader o.partition o.rotation o.idxSel).loadEndpoints o).loadPBits o).inPhase
          .dequantize ibase).run 5 :=
        State.run_of_tick nofun (by simpa using hr) (State.tick_pbits (by simpa using hpb))
    _ = (((((s.enterMode m).putHeader o.partition o.rotation o.idxSel).loadEndpoints o).loadPBits o).dequantize.inPhase
          .readIndices ibase).run 4 :=
        State.run_of_tick nofun (by simpa using hr) rfl
    _ = ((s.load m o).inPhase .interpolatePixels 128).run 3 :=
        State.run_of_tick nofun (by simpa using hr)
          (State.tick_indices (fun j => by simp) (by simpa using h1) (by simpa using h2))
    _ = ((s.load m o).interpolatePixels.inPhase .applyRotation 128).run 2 :=
        State.run_of_tick nofun (by simpa [State.load_eq] using hr) rfl
    _ = ((s.load m o).interpolatePixels.applyRotation.inPhase .writeOutput 128).run 1 :=
        State.run_of_tick nofun (by simpa [State.load_eq] using hr) rfl
    _ = ((s.load m o).interpolatePixels.applyRotation.inPhase .writeOutput 128).writeOutput :=
        State.run_writeOutput (by simpa [State.load_eq] using hr) 128
    _ = exec i (s.inPhase .detectMode 0) := by
        rw [exec_eq_load hm, hi, State.load_inPhase, State.finishDecode_inPhase _ _ .writeOutput]
        rfl

/-- The two transitions of a Reserved block fill the pixels and end as `exec` does. -/
theorem State.run_two {s : State} {u : BitVec 120} (hdetect : detect s.blk = .reserved) (hr : s.resetIn = false) :
    (s.inPhase .detectMode 0).run 2 = exec (.reserved u) (s.inPhase .detectMode 0) :=
  calc (s.inPhase .detectMode 0).run 2
      = (s.enterReserved.inPhase .writeOutput 0).run 1 :=
        State.run_of_tick nofun hr (congrArg _ (State.detectState_reserved (s := s.inPhase .detectMode 0) hdetect))
    _ = (s.enterReserved.inPhase .writeOutput 0).writeOutput := State.run_writeOutput (s := s.enterReserved) hr 0
    _ = exec (.reserved u) (s.inPhase .detectMode 0) := s.enterReserved.writeOutput_inPhase .writeOutput .detectMode 0

/-- Settles O11: the block accepted is that of its well-formed instruction, whose fields the transitions take. -/
theorem sequencerComputesTheTransaction : Obligations.SequencerComputesTheTransaction := by
  intro s r rest hi hr hq hb
  refine ⟨by simp [State.tick, hi, hq, fetch_eq, hb], ?_⟩
  rw [step_of_request hi hr hq hb]
  have hmode := mode_decodeBlock (blockOfBytes r.blockBytes)
  obtain ⟨hwf, henc⟩ := encodeUndoesDecode (blockOfBytes r.blockBytes)
  cases hm : detect (blockOfBytes r.blockBytes) with
  | reserved =>
    rw [if_pos rfl, decodeBlock, hm]
    exact State.run_two (s := s.accept r rest) hm hr
  | valid m =>
    rw [if_neg nofun]
    exact State.run_nine (s := s.accept r rest) (hmode.trans hm) hwf henc.symm hm hr

end Sys2Proof.Machine
end

section
/-! PROOFS. Exceptions: nothing faults (R280, R140), a broken duty is refused by name (R283 to R286), regions
overlap in a byte (R294), and the outcome of a decode is valid or Reserved (R281). -/

namespace Sys2Proof.Machine

/-! ## No field read is out of range (R140) -/

theorem State.takeThen_ne_fault {ws : List Nat} {s : State} (hw : ∀ n ∈ ws, n ≤ 32) (hp : s.bitPos + ws.sum ≤ 128)
    (g : List Nat → State → State) (f : Fault) : s.takeThen ws g ≠ .fault f := by
  obtain ⟨_, -, ht⟩ := State.takeThen_eq_next g hw hp
  rw [ht]
  nofun

theorem endpointWidths_le : ∀ m : Fin 8, ∀ n ∈ endpointWidths (Rom.mode m), n ≤ 8 := by decide

theorem pbitWidths_le : ∀ m : Fin 8, ∀ n ∈ pbitWidths (Rom.mode m), n ≤ 1 := by decide

/-- No state of a valid mode's decode reads a field over MAX_READ_BITS wide. -/
theorem State.Decoding.widthsRead_le {m : Fin 8} {s : State} (d : s.Decoding m) (hd : s.seq ≠ .detectMode) :
    ∀ n ∈ s.widthsRead, n ≤ 32 := by
  unfold State.widthsRead
  cases hq : s.seq with
  | detectMode => exact absurd hq hd
  | readPartitionRotationSelector => exact d.desc ▸ (headerWidths_fit m).1
  | readEndpointChannels => exact fun n hn => (endpointWidths_le m n (d.desc ▸ hn)).trans (by decide)
  | readPBits => exact fun n hn => (pbitWidths_le m n (d.desc ▸ hn)).trans (by decide)
  | readIndices => exact fun n hn => (s.indexWidths_le n hn).trans (by decide)
  | idle | dequantize | interpolatePixels | applyRotation | writeOutput => exact nofun

/-- The reads of a valid mode's decode end inside the block: at the cursor of the next state. -/
theorem State.Decoding.takeThen_ne_fault {m : Fin 8} {s : State} (d : s.Decoding m) (hi : s.seq ≠ .idle)
    (hd : s.seq ≠ .detectMode) (hw : s.seq ≠ .writeOutput) (g : List Nat → State → State) (f : Fault) :
    s.takeThen s.widthsRead g ≠ .fault f :=
  State.takeThen_ne_fault (d.widthsRead_le hd) (d.bitPos_add_widthsRead hi hd hw ▸ cursorAt_le m _) g f

/-! ## Nothing faults (R280) -/

/-- A transition from a sound state does not fault: only the four states that read could, and they are in a decode. -/
theorem State.tick_ne_fault {s : State} (hs : s.Inv = true) (f : Fault) : s.tick ≠ .fault f := by
  unfold State.tick
  cases hq : s.seq with
  | idle =>
    dsimp only
    split
    · nofun
    · split <;> nofun
  | detectMode | dequantize | interpolatePixels | applyRotation => nofun
  | writeOutput => exact s.writeOutput_ne_fault f
  | readPartitionRotationSelector | readEndpointChannels | readPBits | readIndices =>
    have hi : s.seq ≠ .idle := by simp [hq]
    have hd : s.seq ≠ .detectMode := by simp [hq]
    have hw : s.seq ≠ .writeOutput := by simp [hq]
    obtain ⟨m, d⟩ := State.decoding_of_inv hs hi hd hw
    have hread := d.takeThen_ne_fault hi hd hw
    simp only [State.widthsRead, hq] at hread
    exact hread _ f

/-- Nor does a run of transitions, each from a state with the invariant. -/
theorem State.ticks_ne_fault {k : Nat} {s : State} (hs : s.Inv = true) (f : Fault) : s.ticks k ≠ .fault f := by
  induction k generalizing s with
  | zero => nofun
  | succ k ih =>
    unfold State.ticks
    split
    · nofun
    · split
      next t ht => exact ih (State.tick_inv hs ht)
      next f' hf => exact absurd hf (State.tick_ne_fault hs f')
      next => nofun

theorem State.resetUnit_ne_fault {s : State} (hs : s.Inv = true) (f : Fault) : s.resetUnit ≠ .fault f := by
  unfold State.resetUnit
  split
  · nofun
  · split
    next => nofun
    next f' hf => exact absurd hf (State.ticks_ne_fault hs f')
    next => nofun

/-- No instruction faults in any state: each ends in `WriteOutput`, which completes or refuses. -/
theorem exec_ne_fault (i : Instr) (s : State) (f : Fault) : exec i s ≠ .fault f := by
  obtain ⟨u, hu, -, -⟩ := exec_writesTarget i s
  exact hu ▸ u.writeOutput_ne_fault f

theorem State.transaction_ne_fault (s : State) (f : Fault) : s.transaction ≠ .fault f := by
  unfold State.transaction
  split
  · nofun
  · split
    · nofun
    · exact exec_ne_fault _ _ f

theorem step_ne_fault {s : State} (hs : s.Inv = true) (f : Fault) : step s ≠ .fault f := by
  unfold step
  split
  · exact State.resetUnit_ne_fault hs f
  · split
    · exact s.transaction_ne_fault f
    · exact State.tick_ne_fault hs f

/-- Settles O58, by `step_ne_fault` and `exec_ne_fault`. -/
theorem nothingFaults : Obligations.NothingFaults :=
  ⟨fun _ f hs => step_ne_fault hs f, exec_ne_fault⟩

/-! ## Refusals (R283 to R286) -/

theorem State.writeOutput_of_not_bufferFits {s : State} (h : s.bufferFits = false) :
    s.writeOutput = .refused .bufferTooSmall := by
  simp [State.writeOutput, h]

theorem State.writeOutput_of_not_footprintFree {s : State} (hb : s.bufferFits = true) (hf : s.footprintFree = false) :
    s.writeOutput = .refused .footprintInUse := by
  simp [State.writeOutput, hb, hf]

theorem State.SameTarget.bufferFits {s t : State} (h : s.SameTarget t) : t.bufferFits = s.bufferFits := by
  rw [State.bufferFits, State.bufferFits, h.imageWidth, h.imageHeight, h.destLen]

/-- P2 broken: every instruction is refused. -/
theorem exec_of_not_bufferFits (i : Instr) {s : State} (h : s.bufferFits = false) :
    exec i s = .refused .bufferTooSmall := by
  obtain ⟨u, hu, ht, -⟩ := exec_writesTarget i s
  exact hu.trans (State.writeOutput_of_not_bufferFits (ht.bufferFits.trans h))

/-- P3 broken, P2 met: every instruction is refused. -/
theorem exec_of_not_footprintFree (i : Instr) {s : State} (hb : s.bufferFits = true) (hf : s.footprintFree = false) :
    exec i s = .refused .footprintInUse := by
  obtain ⟨u, hu, ht, -⟩ := exec_writesTarget i s
  exact hu.trans (State.writeOutput_of_not_footprintFree (ht.bufferFits.trans hb) (ht.footprintFree.trans hf))

/-- P1 broken: the request is not accepted. -/
theorem step_of_not_sixteen_bytes {s : State} {r : Request} {rest : List Request} (hi : s.seq = .idle)
    (hr : s.resetIn = false) (hq : s.requests = r :: rest) (hb : r.blockBytes.length ≠ 16) :
    step s = .refused .blockNotSixteenBytes := by
  simp [step, State.transaction, hi, hr, hq, fetch_eq, hb]

/-- Settles O50: P1 at the fetch, P2 and P3 where the instruction of the accepted request writes its output. -/
theorem refusedExactlyWhenADutyIsBroken : Obligations.RefusedExactlyWhenADutyIsBroken := by
  intro s r rest hi hr hq
  have hfits : (s.accept r rest).bufferFits = decide (r.imageWidth * r.imageHeight * 4 ≤ s.destLen) := rfl
  have hfree : (s.accept r rest).footprintFree =
    !s.inFlight.any fun g => g.overlaps ⟨r.blockX, r.blockY, r.imageWidth, r.imageHeight⟩ := rfl
  refine ⟨step_of_not_sixteen_bytes hi hr hq, fun hb hl => ?_, fun hb hl ho => ?_, fun hb hl ho => ?_⟩
  all_goals rw [step_of_request hi hr hq hb]
  · exact exec_of_not_bufferFits _ (hfits.trans (decide_eq_false (Nat.not_le.mpr hl)))
  · exact exec_of_not_footprintFree _ (hfits.trans (decide_eq_true hl)) (by rw [hfree, ho]; rfl)
  · have hd : (s.accept r rest).dutiesMet = true := by
      rw [State.dutiesMet, hfits, hfree, ho, decide_eq_true hl]
      rfl
    obtain ⟨t, ht⟩ := exec_completes (decodeBlock (blockOfBytes r.blockBytes)) hd
    obtain ⟨-, htarget, hidle, -⟩ := exec_next ht
    exact ⟨t, ht, hidle, exec_completion ht, htarget.requests⟩

/-! ## The overlap test (R294, P3) -/

theorem Region.overlaps_iff (g h : Region) : g.overlaps h = true ↔ ∃ p, p ∈ g.offsets ∧ p ∈ h.offsets := by
  simp only [Region.overlaps, List.any_eq_true, List.contains_iff_mem]

/-- A pixel's offset is a multiple of 4 (R87). -/
theorem Region.four_dvd_of_mem_offsets {g : Region} {p : Nat} (hp : p ∈ g.offsets) : 4 ∣ p := by
  obtain ⟨i, -, rfl⟩ := List.mem_map.mp hp
  exact Nat.dvd_mul_left 4 _

/-- Settles O51: two pixels with a byte in common, each 4 bytes at a multiple of 4, are one pixel. -/
theorem overlapMeansASharedByte : Obligations.OverlapMeansASharedByte := by
  intro g h
  rw [Region.overlaps_iff]
  constructor
  · rintro ⟨p, hg, hh⟩
    exact ⟨p, p, p, hg, hh, by omega, by omega, by omega, by omega⟩
  · rintro ⟨a, p, q, hp, hq, hpa, hap, hqa, haq⟩
    have hp4 := Region.four_dvd_of_mem_offsets hp
    have hq4 := Region.four_dvd_of_mem_offsets hq
    obtain rfl : p = q := by omega
    exact ⟨p, hp, hq⟩

/-! ## The outcome (R280, R281) -/

/-- A decode leaves the mode of its instruction. -/
theorem exec_mode {i : Instr} {s t : State} (h : exec i s = .next t) : t.mode = i.mode := by
  cases hm : i.mode with
  | valid m =>
    obtain ⟨hmode, -⟩ := (exec_holds hm h).left
    exact hmode
  | reserved =>
    cases i <;> cases hm
    rw [execReserved_next h]
    rfl

theorem State.outcomeKind_eq_reservedMode_iff (s : State) : s.outcomeKind = .reservedMode ↔ s.mode = .reserved := by
  unfold State.outcomeKind
  cases s.mode <;> simp

/-- There is no third outcome. -/
theorem OutcomeKind.eq_validMode_iff (o : OutcomeKind) : o = .validMode ↔ o ≠ .reservedMode := by
  cases o <;> simp

/-- Settles O60: the mode left is the one detected, which is Reserved exactly when byte 0 is 0. -/
theorem outcomeIsValidOrReserved : Obligations.OutcomeIsValidOrReserved := by
  intro blk s t h
  obtain ⟨-, hzero, -⟩ := opcodeMapDecidesTheMode
  have hres : t.outcomeKind = .reservedMode ↔ blk.toNat % 256 = 0 := by
    rw [t.outcomeKind_eq_reservedMode_iff, exec_mode h, mode_decodeBlock, hzero]
  exact ⟨hres, (OutcomeKind.eq_validMode_iff _).trans (not_congr hres)⟩

end Sys2Proof.Machine
end

section
/-! PROOFS. Reset (R300, R301) in one unit and among several (R294), what a look at the buffer shows before completion
(R89, R306), and that every decode within the duties ends (R310, R311). -/

namespace Sys2Proof.Machine

/-! ## Reset in Idle and inside a decode (R300, R301) -/

/-- Settles O56: an empty buffer, the cursor at 0, and Idle. -/
theorem resetMeetsTheInvariant : Obligations.ResetMeetsTheInvariant :=
  State.inv_of_idle rfl ⟨rfl, fun _ h => absurd rfl h⟩ (Nat.zero_le _)

/-- Whatever reset interrupts, only the buffer it leaves depends on it. -/
theorem State.resetUnit_eq_resetRegisters {s t : State} (h : s.resetUnit = .next t) : t = s.resetRegisters t.dest := by
  obtain ⟨-, rfl⟩ | ⟨-, d, -, rfl⟩ := State.resetUnit_next h <;> rfl

theorem State.resetUnit_dest_of_idle {s t : State} (hi : s.seq = .idle) (h : s.resetUnit = .next t) :
    t.dest = s.dest := by
  obtain ⟨-, rfl⟩ | ⟨hb, -⟩ := State.resetUnit_next h
  · rfl
  · exact absurd hi hb

/-- Outside the footprint of the latched request reset leaves every byte, from Idle and from inside a decode. -/
theorem State.resetUnit_read_outside {s t : State} (h : s.resetUnit = .next t) {a : Nat} (ha : s.inFootprint a = false) :
    t.dest.read a = s.dest.read a := by
  obtain ⟨-, rfl⟩ | ⟨-, d, -, rfl⟩ := State.resetUnit_next h
  · rfl
  · have hout : a ∉ s.footprint := fun hin => by simp [(s.mem_footprint a).mp hin] at ha
    exact (read_mixBytes _ _ _ _ a).trans (if_neg fun hmix => hout hmix.1)

/-- Inside a decode reset leaves each byte as it was, or as the decode run to its end leaves it (92 D24). -/
theorem State.resetUnit_read_busy {s d t : State} (hi : s.seq ≠ .idle) (hd : s.runToIdle = .next d)
    (h : s.resetUnit = .next t) (a : Nat) : t.dest.read a = s.dest.read a ∨ t.dest.read a = d.dest.read a := by
  obtain ⟨hidle, -⟩ | ⟨-, d', hd', rfl⟩ := State.resetUnit_next h
  · exact absurd hidle hi
  · obtain rfl : d' = d := Host.Outcome.next.inj (hd'.symm.trans hd)
    have hmix := read_mixBytes (Config.freeResetMix s.freeCount) d'.dest s.footprint s.dest a
    split at hmix
    · exact .inr hmix
    · exact .inl hmix

/-- Settles O52: the reset registers, on the buffer as it was when the unit was Idle. -/
theorem resetLeavesTheUnitIdle : Obligations.ResetLeavesTheUnitIdle := by
  refine ⟨⟨rfl, rfl, rfl, rfl⟩, fun s t hr h => ?_⟩
  rw [step_of_reset hr] at h
  have hdest := fun hi => State.resetUnit_dest_of_idle hi h
  rw [State.resetUnit_eq_resetRegisters h] at hdest ⊢
  exact ⟨rfl, rfl, rfl, rfl, rfl, hdest⟩

/-- Settles O53: inside the footprint the mix has the prior or the decoded byte, outside the prior one. -/
theorem resetDuringADecodeMixesTheFootprint : Obligations.ResetDuringADecodeMixesTheFootprint := by
  intro s d t _ hi hr hd h
  rw [step_of_reset hr] at h
  have ht := State.resetUnit_eq_resetRegisters h
  refine ⟨by rw [ht]; rfl, by rw [ht]; rfl, fun a => ⟨?_, State.resetUnit_read_outside h⟩⟩
  cases ha : s.inFootprint a with
  | true => exact (State.resetUnit_read_busy hi hd h a).imp_right fun hread => ⟨rfl, hread⟩
  | false => exact .inl (State.resetUnit_read_outside h ha)

/-! ## Reset of one unit among several (R294) -/

/-- The reset of unit k is its own reset on the shared buffer (log 21). -/
theorem System.tick_of_reset {y z : System} {k : Nat} {u : State} (hu : y.units[k]? = some u) (hr : u.resetIn = true)
    (h : y.tick k = .next z) :
    ∃ t, (y.attach k u).resetUnit = .next t ∧ z = { y with units := y.units.set k t.detach, dest := t.dest } := by
  obtain ⟨hnone, -⟩ | ⟨u', t, hu', ht, rfl⟩ := System.tick_next h
  · simp [hu] at hnone
  · obtain rfl : u = u' := by simpa [hu] using hu'
    exact ⟨t, (State.resetOrTick_of_reset (s := y.attach k u) hr).symm.trans ht, rfl⟩

/-- Settles O54: the unit's own reset on the shared buffer, which keeps its footprint. -/
theorem resetOfOneInstanceLeavesTheOthers : Obligations.ResetOfOneInstanceLeavesTheOthers := by
  intro y z k u hu hr h
  obtain ⟨t, ht, rfl⟩ := System.tick_of_reset hu hr h
  have hunit : (y.units.set k t.detach)[k]? = some t.detach := by
    obtain ⟨hk, -⟩ := List.getElem?_eq_some_iff.mp hu
    exact List.getElem?_set_self hk
  refine ⟨⟨t.detach, hunit, ?_⟩, fun j hj => List.getElem?_set_ne hj.symm, rfl,
    fun hi => State.resetUnit_dest_of_idle (s := y.attach k u) hi ht,
    fun a ha => State.resetUnit_read_outside (s := y.attach k u) ht ha,
    fun a d hi hd => State.resetUnit_read_busy (s := y.attach k u) hi hd ht a⟩
  rw [State.resetUnit_eq_resetRegisters ht]
  exact ⟨rfl, rfl, rfl, rfl⟩

/-! ## What a caller sees before completion (R89, R93, R306) -/

/-- Beside a decode with a meaning a look shows the prior or the decoded byte. -/
theorem State.decodeSight_prior_or_decoded {s d : State} (hd : s.runToIdle = .next d) (k a : Nat) :
    s.decodeSight k a = s.dest.read a ∨ s.decodeSight k a = d.dest.read a := by
  rw [State.decodeSight_of_next hd]
  split
  · exact .inr rfl
  · exact .inl rfl

/-- A byte that the unit's own decode does not write: the buffer's, or any while another unit is decoding it. -/
theorem State.visible_of_not_own {s : State} {a : Nat} (h : s.seq = .idle ∨ s.inFootprint a = false) (k : Nat) :
    s.visible k a =
      if s.inFlight.any (fun g => g.covers a) ∧ Config.freeSight k a then some (Config.freeByte k a)
      else s.dest.read a := by
  have hown : ¬ (s.seq ≠ .idle ∧ s.inFootprint a = true) := by
    rintro ⟨hi, ha⟩
    exact h.elim hi fun hout => by simp [ha] at hout
  rw [State.visible, if_neg hown, ite_and]

theorem System.visible_of_none_busy {y : System} {a : Nat}
    (h : ∀ (i : Nat) (v : State), y.units[i]? = some v → v.seq ≠ .idle → v.inFootprint a = false) (k : Nat) :
    y.visible k a = y.dest.read a := by
  have hnil : y.busyAt a = [] := List.eq_nil_iff_forall_not_mem.mpr fun ⟨v, i⟩ hv => by
    obtain ⟨hunit, hi, ha⟩ := System.mem_busyAt.mp hv
    simp [h i v hunit hi] at ha
  rw [System.visible, hnil]

/-- A byte that one busy unit alone writes shows what a look at that unit's decode shows. -/
theorem System.visible_of_one_busy {y : System} {j a : Nat} {u : State} (hu : y.units[j]? = some u)
    (hi : u.seq ≠ .idle) (ha : u.inFootprint a = true)
    (h : ∀ (i : Nat) (v : State), i ≠ j → y.units[i]? = some v → v.seq ≠ .idle → v.inFootprint a = false) (k : Nat) :
    y.visible k a = (y.attach j u).decodeSight k a := by
  have hone : y.busyAt a = [(u, j)] :=
    System.busyAt_singleton (System.mem_busyAt.mpr ⟨hu, hi, ha⟩) fun v i hv => by
      obtain ⟨hunit, hvi, hva⟩ := System.mem_busyAt.mp hv
      by_contra hij
      simp [h i v hij hunit hvi] at hva
  rw [System.visible, hone]

/-- Settles O55: a look at one unit by whether the byte is its own decode's, at a system by who is busy with it. -/
theorem callerSeesPriorOrDecodedBytes : Obligations.CallerSeesPriorOrDecodedBytes := by
  refine ⟨fun s k a hout hfree => ?_, fun s d k a hi ha hd => ?_, fun s k a hout _ => ?_,
    fun y k a h => System.visible_of_none_busy h k, fun y j k a u d hu hi ha h hd => ?_⟩
  · rw [State.visible_of_not_own hout, hfree, if_neg (by simp)]
  · rw [State.visible_of_own hi ha]
    exact State.decodeSight_prior_or_decoded hd k a
  · rw [State.visible_of_not_own hout]
    split
    · exact .inr ⟨_, rfl⟩
    · exact .inl rfl
  · rw [System.visible_of_one_busy hu hi ha h]
    exact State.decodeSight_prior_or_decoded hd k a

/-! ## Every decode ends (R310, R311) -/

/-- How many transitions a decode has left at most: a Reserved block skips from `DetectMode` to the last (R310). -/
def Seq.transitionsLeft : Seq → Nat
  | .idle => 0
  | .detectMode => 9
  | .readPartitionRotationSelector => 8
  | .readEndpointChannels => 7
  | .readPBits => 6
  | .dequantize => 5
  | .readIndices => 4
  | .interpolatePixels => 3
  | .applyRotation => 2
  | .writeOutput => 1

theorem Seq.transitionsLeft_le (q : Seq) : q.transitionsLeft ≤ 9 := by
  cases q <;> decide

theorem Seq.transitionsLeft_eq_zero_iff (q : Seq) : q.transitionsLeft = 0 ↔ q = .idle := by
  cases q <;> decide

theorem Seq.transitionsLeft_following {q : Seq} (hi : q ≠ .idle) :
    q.following.transitionsLeft < q.transitionsLeft := by
  cases q with
  | idle => exact absurd rfl hi
  | _ => decide

/-- `DetectMode` hands a Reserved block to `WriteOutput` and any other to the header (R142, R262). -/
theorem State.detectState_seq (s : State) :
    s.detectState.seq = .writeOutput ∨ s.detectState.seq = .readPartitionRotationSelector := by
  cases hm : detect s.blk with
  | reserved => exact .inl (by rw [State.detectState_reserved hm])
  | valid m => exact .inr (by rw [State.detectState_valid hm])

/-- Every transition inside a decode leaves fewer of them (R250). -/
theorem State.tick_transitionsLeft {s t : State} (hi : s.seq ≠ .idle) (h : s.tick = .next t) :
    t.seq.transitionsLeft < s.seq.transitionsLeft := by
  by_cases hd : s.seq = .detectMode
  · rw [State.tick_of_detectMode hd h, hd]
    rcases s.detectState_seq with hq | hq <;> rw [hq] <;> decide
  by_cases hw : s.seq = .writeOutput
  · rw [(State.tick_of_writeOutput hw h).2, State.written_seq, hw]
    decide
  rw [(State.tick_advances hi hd hw h).seq]
  exact Seq.transitionsLeft_following hi

/-- Only `WriteOutput` ends a decode, and it completes it (R263, R33). -/
theorem State.tick_completion_of_ends {s t : State} (hi : s.seq ≠ .idle) (h : s.tick = .next t) (ht : t.seq = .idle) :
    t.completion = true := by
  by_cases hd : s.seq = .detectMode
  · rw [State.tick_of_detectMode hd h] at ht
    rcases s.detectState_seq with hq | hq <;> cases hq.symm.trans ht
  by_cases hw : s.seq = .writeOutput
  · rw [(State.tick_of_writeOutput hw h).2]
    rfl
  exact absurd ht ((State.tick_advances hi hd hw h).seq_ne hi hw).1

theorem State.tick_ne_refused {s : State} (hi : s.seq ≠ .idle) (hd : s.dutiesMet = true) (why : Refusal) :
    s.tick ≠ .refused why := by
  unfold State.tick
  cases hq : s.seq with
  | idle => exact absurd hq hi
  | detectMode | dequantize | interpolatePixels | applyRotation => nofun
  | readPartitionRotationSelector | readEndpointChannels | readPBits | readIndices =>
    exact State.takeThen_ne_refused why
  | writeOutput =>
    dsimp only
    rw [State.writeOutput_eq_next hd]
    nofun

/-- Inside a decode within the duties every transition has a successor. -/
theorem State.tick_isNext {s : State} (hs : s.Inv = true) (hi : s.seq ≠ .idle) (hd : s.dutiesMet = true) :
    ∃ t, s.tick = .next t := by
  cases h : s.tick with
  | next t => exact ⟨t, rfl⟩
  | fault f => exact absurd h (State.tick_ne_fault hs f)
  | refused why => exact absurd h (State.tick_ne_refused hi hd why)

theorem State.ticks_of_idle {s : State} (hi : s.seq = .idle) (k : Nat) : s.ticks k = .next s := by
  cases k <;> simp [State.ticks, hi]

theorem State.ticks_of_tick {s t : State} (hi : s.seq ≠ .idle) (h : s.tick = .next t) (k : Nat) :
    s.ticks (k + 1) = t.ticks k := by
  simp [State.ticks, hi, h]

/-- As many transitions as a decode within the duties has left at most take it to its completion. -/
theorem State.ticks_complete {k : Nat} {s : State} (hs : s.Inv = true) (hc : s.seq = .idle → s.completion = true)
    (hd : s.dutiesMet = true) (hk : s.seq.transitionsLeft ≤ k) :
    ∃ t, s.ticks k = .next t ∧ t.seq = .idle ∧ t.completion = true ∧ t.requests = s.requests := by
  induction k generalizing s with
  | zero =>
    have hi := s.seq.transitionsLeft_eq_zero_iff.mp (Nat.le_zero.mp hk)
    exact ⟨s, rfl, hi, hc hi, rfl⟩
  | succ k ih =>
    by_cases hi : s.seq = .idle
    · exact ⟨s, State.ticks_of_idle hi _, hi, hc hi, rfl⟩
    · obtain ⟨u, hu⟩ := State.tick_isNext hs hi hd
      have hless := State.tick_transitionsLeft hi hu
      have htarget := State.tick_sameTarget hi hu
      obtain ⟨t, ht, hti, htc, htr⟩ := ih (State.tick_inv hs hu) (State.tick_completion_of_ends hi hu)
        (htarget.dutiesMet.trans hd) (by omega)
      exact ⟨t, (State.ticks_of_tick hi hu k).trans ht, hti, htc, htr.trans htarget.requests⟩

/-- Settles O59: no state of a decode has more than nine transitions left. -/
theorem everyDecodeEndsInNineTransitions : Obligations.EveryDecodeEndsInNineTransitions :=
  fun s hs hi hd => State.ticks_complete hs (absurd · hi) hd s.seq.transitionsLeft_le

end Sys2Proof.Machine
end
